-- ==== Sys2Proof/Word.lean ====
section
/-! DEFINITION. Word types of JAGSCAN (10_state.md R20, 30_encoding.md R70). Values are unsigned (R9). -/

namespace Sys2Proof

/-- An 8-bit byte; bit 0 is the least significant (R8). -/
abbrev Byte := BitVec 8

/-- A command word on the command port, format CMD3 (R80): bit 2 is `D`, bits 1:0 are `OP`. -/
abbrev CmdWord := BitVec 3

/-- A phase code of the sequencer, format PH4 (R82). -/
abbrev PhaseCode := BitVec 4

/-- The levels of the six row lines `ROW[5:0]` (R28). -/
abbrev RowBits := BitVec 6

/-- A report, format RPT40: five bytes in transmission order (R51, R74). -/
abbrev Report := Vector Byte 5

/-- A column line 0..3 (R6 `N_COLS`). -/
abbrev Column := Fin 4

/-- A byte index of a report buffer, 0..4 (R30, R50). -/
abbrev ByteIdx := Fin 5

end Sys2Proof
end

