-- ==== Sys2Proof/Syntax.lean ====
section
/-! DEFINITION. The instructions of JAGSCAN: one constructor per row of spec/opcode_table.json,
the four commands (CMD3, 30_encoding.md R81) and the fifteen phases (PH4, R82). -/

namespace Sys2Proof

/-- An instruction. The `d` of a command is bit 2 of its word, "destination supplied": it selects the form
of BUILDREPORT and is ignored by the other three (R80), where it is still kept because `CMD_Q` holds the
whole word (R150). A phase has no operand field: its operands are the registers `COL` and `IDX`. -/
inductive Instr where
  | init (d : Bool)          -- CMD3 OP = 00
  | update (d : Bool)        -- CMD3 OP = 01
  | changed (d : Bool)       -- CMD3 OP = 10
  | buildReport (d : Bool)   -- CMD3 OP = 11
  | idle                     -- PH4 0x0
  | saveIe                   -- PH4 0x1
  | cfgPins                  -- PH4 0x2
  | strobeLow                -- PH4 0x3
  | strobeOut                -- PH4 0x4
  | settle                   -- PH4 0x5
  | sample                   -- PH4 0x6
  | releaseIn                -- PH4 0x7
  | releasePu                -- PH4 0x8
  | decode                   -- PH4 0x9
  | pack                     -- PH4 0xA
  | restoreIe                -- PH4 0xB
  | chg                      -- PH4 0xC
  | copyDest                 -- PH4 0xD
  | copyRep                  -- PH4 0xE
  deriving DecidableEq, Repr

end Sys2Proof
end

