-- ==== Sys2Proof/Config.lean ====
section
/-! DEFINITION. What is fixed for one machine: the constants of 00_scope.md R6, the parameters R7 leaves
open, the reference decode map (30_encoding.md R86), and the free values (R12 `draw`). -/

namespace Sys2Proof

/-- The 17 buttons, in the packing order of R75 (R23). -/
inductive Button where
  | btnA | btnB | btnC | opt | pause | k3 | k2 | k1 | k6 | k5 | k4 | k9 | k8 | k7 | kStar | k0 | kHash
  deriving DecidableEq, Repr

/-- The four directional edges (R6 `N_DIRS`). -/
inductive Dir where
  | north | south | east | west
  deriving DecidableEq, Repr

/-- A field: one of the 21 decoded inputs (R85(d)). -/
inductive Field where
  | button (b : Button)
  | dir (d : Dir)
  deriving DecidableEq, Repr

/-- A matrix position: a column and a raw bit of its sample (R85). -/
structure Position where
  col : Fin 4
  bit : Fin 6
  deriving DecidableEq, Repr

/-- All buttons, in packing order. -/
def Button.all : List Button :=
  [.btnA, .btnB, .btnC, .opt, .pause, .k3, .k2, .k1, .k6, .k5, .k4, .k9, .k8, .k7, .kStar, .k0, .kHash]

/-- The place of a button in the list of R75, with the default places of `*` and `0`. -/
def Button.index : Button → Fin 17
  | .btnA => 0 | .btnB => 1 | .btnC => 2 | .opt => 3 | .pause => 4
  | .k3 => 5 | .k2 => 6 | .k1 => 7 | .k6 => 8 | .k5 => 9 | .k4 => 10
  | .k9 => 11 | .k8 => 12 | .k7 => 13 | .kStar => 14 | .k0 => 15 | .kHash => 16

/-- The place of a field in `Config.map`: the buttons in packing order, then N, S, E, W. -/
def Field.index : Field → Fin 21
  | .button b => Fin.castLE (by omega) b.index
  | .dir .north => 17
  | .dir .south => 18
  | .dir .east => 19
  | .dir .west => 20

/-- A pin of the platform: a package pin and the port and bit of a port that reach it (R7, 20_memory.md R56). The
spec gives no names for them, so numbers stand for them: DESIGN CHOICE, log 28. -/
structure PinIdentity where
  package : Nat
  port : Nat
  portBit : Nat
  deriving DecidableEq, Repr

/-- Pin identities: the pins that carry `COL[3:0]` and `ROW[5:0]` (R7 last row, D12, U9). -/
structure PinMap where
  col : Vector PinIdentity 4
  row : Vector PinIdentity 6
  deriving DecidableEq, Repr

/-- The parameters the spec leaves open (R7), as plain data. -/
structure Config where
  /-- `MAP`: the position of each field, by `Field.index` (R85). -/
  map : Vector Position 21
  /-- `DIR_ORDER`: the order in which the directions are tested (R124). -/
  dirOrder : List Dir
  /-- `POS_STAR`, `POS_ZERO`: bit cursors of keypad `*` and keypad `0` (R75, R77). -/
  posStar : Fin 17
  posZero : Fin 17
  /-- `N_SETTLE`: settle ticks (R31, R103). -/
  nSettle : Nat
  /-- `F_CLK`: the clock frequency (R7, R103). A whole number of hertz: DESIGN CHOICE, log 34. -/
  fClk : Nat
  /-- `BUILD_RET_NODEST`: the count BUILDREPORT answers without a destination (R156). -/
  buildRetNoDest : BitVec 3
  /-- `INIT_REARMS_FIRST`: whether SAVE_IE sets `FIRST` (R160). -/
  initRearmsFirst : Bool
  /-- `DESC`: the report descriptor, opaque to the block (R33); `DESC_SIZE` is its length. -/
  desc : List Byte
  /-- Pin identities: `none` while the platform has not named them, R7's default. Every choice is legal. -/
  pins : Option PinMap
  deriving DecidableEq, Repr

namespace Config

/-- `AXIS_MIN`: west on x, north on y (R6, R73). -/
def axisMin : Byte := 0x00#8

/-- `AXIS_CENTER`: an axis at rest (R6, R73). -/
def axisCenter : Byte := 0x80#8

/-- `AXIS_MAX`: east on x, south on y (R6, R73). -/
def axisMax : Byte := 0xff#8

/-- `REPORT_SIZE`, as the 3-bit constant the block exposes (R33, R89). -/
def reportSize : BitVec 3 := 5#3

/-- `T_SETTLE` in milliseconds (R6). -/
def tSettleMs : Nat := 2

/-- `DESC_SIZE`, the static size exposed with the descriptor (R33). -/
def descSize (c : Config) : Nat := c.desc.length

/-- `MAP(f)` (R85). -/
def mapOf (c : Config) (f : Field) : Position := c.map[f.index]

/-- `POS(f)`, the bit cursor of a button (R75). -/
def pos (c : Config) : Button → Fin 17
  | .kStar => c.posStar
  | .k0 => c.posZero
  | b => b.index

/-- The reference map `MAP_REF` (R86), in `Field.index` order. -/
def mapRef : Vector Position 21 :=
  #v[⟨3, 0⟩, ⟨2, 0⟩, ⟨1, 0⟩, ⟨0, 0⟩, ⟨3, 5⟩,
     ⟨0, 1⟩, ⟨1, 1⟩, ⟨2, 1⟩,
     ⟨0, 2⟩, ⟨1, 2⟩, ⟨2, 2⟩,
     ⟨0, 3⟩, ⟨1, 3⟩, ⟨2, 3⟩,
     ⟨2, 4⟩, ⟨1, 4⟩, ⟨0, 4⟩,
     ⟨3, 4⟩, ⟨3, 3⟩, ⟨3, 1⟩, ⟨3, 2⟩]

/-- The defaults of R7. `N_SETTLE`, `F_CLK` and `DESC` have none there: one tick of a 500 Hz clock is 2 ms,
and the descriptor is left empty. DESIGN CHOICE, log 2: unsafe if taken as facts of the original. -/
def reference : Config where
  map := mapRef
  dirOrder := [.north, .south, .east, .west]
  posStar := 14
  posZero := 15
  nSettle := 1
  fClk := 500
  buildRetNoDest := 0#3
  initRearmsFirst := false
  desc := []
  pins := none

/-- `draw(n)` (R12): the `k`-th free value, of `n` bits. It has no body, so nothing can be proved about
which value it is: a floating row line (R110, V2), a reading no controller contract fixes (V3), a register
the spec leaves unspecified after an `rst` edge (R192). Safe: log 6. -/
opaque draw (n : Nat) (k : Nat) : BitVec n

end Config

end Sys2Proof
end

