-- ==== Sys2Proof/WellFormed.lean ====
section
/-! DEFINITION. What is legal: every instruction (no command word is illegal, 30_encoding.md R81, and a phase
has no operand), and the parameter values of 00_scope.md R7. -/

namespace Sys2Proof

/-- Every instruction is well-formed: "there is no illegal command word" (R81), with `d` at either value, and
phases carry no operand. -/
abbrev Instr.wf (_ : Instr) : Prop := True

namespace Config

/-- No position serves two fields (R85(a)). -/
abbrev MapInjective (c : Config) : Prop := c.map.toList.Nodup

/-- `MAP(A) = (3, 0)` (R85(c)). -/
abbrev MapFixesA (c : Config) : Prop := c.mapOf (.button .btnA) = ⟨3, 0⟩

/-- `DIR_ORDER` is a permutation of the four directions (R7). -/
abbrev DirOrderLegal (c : Config) : Prop := c.dirOrder.Perm [.north, .south, .east, .west]

/-- `POS_STAR` and `POS_ZERO` are 14 and 15 in one of the two orders (R7). -/
abbrev PosLegal (c : Config) : Prop :=
  (c.posStar = 14 ∧ c.posZero = 15) ∨ (c.posStar = 15 ∧ c.posZero = 14)

/-- `N_SETTLE >= 1` (R7). -/
abbrev SettleLegal (c : Config) : Prop := 1 ≤ c.nSettle

/-- `N_SETTLE / F_CLK >= T_SETTLE` (R7, R103, R195), with `F_CLK` in whole hertz and above 0, and `T_SETTLE` in
milliseconds: the unit is a DESIGN CHOICE, log 34. -/
abbrev SettleTimeLegal (c : Config) : Prop := 0 < c.fClk ∧ tSettleMs * c.fClk ≤ 1000 * c.nSettle

/-- `BUILD_RET_NODEST` is 0 or 5 (R7). -/
abbrev BuildRetLegal (c : Config) : Prop := c.buildRetNoDest = 0#3 ∨ c.buildRetNoDest = 5#3

/-- A legal parameter set (R7, R85). -/
abbrev wf (c : Config) : Prop :=
  c.MapInjective ∧ c.MapFixesA ∧ c.DirOrderLegal ∧ c.PosLegal ∧ c.SettleLegal ∧ c.SettleTimeLegal ∧ c.BuildRetLegal

end Config

end Sys2Proof
end

