-- ==== Sys2Proof/Decode.lean ====
section
/-! DEFINITION. The decoder and the encoder of the two control formats, CMD3 (30_encoding.md R80, R81) and PH4
(R82), and the opcode table as rows of match and mask. The two formats live in two places (the command port and
the phase register), so the same number means one thing in each; `CodeWord` says which is meant. -/

namespace Sys2Proof

/-- A control word in its format. -/
inductive CodeWord where
  | cmd3 (w : CmdWord)     -- a word on the command port
  | ph4 (w : PhaseCode)    -- a code in the phase register
  deriving DecidableEq, Repr

/-- Why a word is no instruction. -/
inductive DecodeError where
  /-- PH4 code 0xF, "never entered" (R82, R84(b)). -/
  | reservedPhase
  deriving DecidableEq, Repr

/-- CMD3 (R81): `OP` is bits 1:0, `D` bit 2; every word is a command. -/
def decodeCmd (w : CmdWord) : Instr :=
  let d := w.getLsbD 2
  match w.getLsbD 1, w.getLsbD 0 with
  | false, false => .init d
  | false, true => .update d
  | true, false => .changed d
  | true, true => .buildReport d

/-- PH4 (R82): one code per phase, and 0xF reserved. -/
def decodePhase (w : PhaseCode) : Except DecodeError Instr :=
  match w.toNat with
  | 0x0 => .ok .idle
  | 0x1 => .ok .saveIe
  | 0x2 => .ok .cfgPins
  | 0x3 => .ok .strobeLow
  | 0x4 => .ok .strobeOut
  | 0x5 => .ok .settle
  | 0x6 => .ok .sample
  | 0x7 => .ok .releaseIn
  | 0x8 => .ok .releasePu
  | 0x9 => .ok .decode
  | 0xA => .ok .pack
  | 0xB => .ok .restoreIe
  | 0xC => .ok .chg
  | 0xD => .ok .copyDest
  | 0xE => .ok .copyRep
  | _ => .error .reservedPhase

/-- The decoder, total on every word of either format. -/
def decode : CodeWord → Except DecodeError Instr
  | .cmd3 w => .ok (decodeCmd w)
  | .ph4 w => decodePhase w

/-- The command word of `OP` and `D` (R80). -/
def cmdWordOf (op : BitVec 2) (d : Bool) : CmdWord := BitVec.ofBool d ++ op

/-- The encoder, from the same tables R81 and R82. -/
def encode : Instr → CodeWord
  | .init d => .cmd3 (cmdWordOf 0b00#2 d)
  | .update d => .cmd3 (cmdWordOf 0b01#2 d)
  | .changed d => .cmd3 (cmdWordOf 0b10#2 d)
  | .buildReport d => .cmd3 (cmdWordOf 0b11#2 d)
  | .idle => .ph4 0x0#4
  | .saveIe => .ph4 0x1#4
  | .cfgPins => .ph4 0x2#4
  | .strobeLow => .ph4 0x3#4
  | .strobeOut => .ph4 0x4#4
  | .settle => .ph4 0x5#4
  | .sample => .ph4 0x6#4
  | .releaseIn => .ph4 0x7#4
  | .releasePu => .ph4 0x8#4
  | .decode => .ph4 0x9#4
  | .pack => .ph4 0xA#4
  | .restoreIe => .ph4 0xB#4
  | .chg => .ph4 0xC#4
  | .copyDest => .ph4 0xD#4
  | .copyRep => .ph4 0xE#4

/-- A row of the opcode table: a word of the format is the row's when `word AND mask = match`. -/
inductive Row where
  | cmd3 (pattern mask : CmdWord)
  | ph4 (pattern mask : PhaseCode)
  deriving DecidableEq, Repr

/-- The opcode table's row of each instruction (R81's match / mask column; R82's codes under mask 0xF). -/
def tableRow : Instr → Row
  | .init _ => .cmd3 0b000#3 0b011#3
  | .update _ => .cmd3 0b001#3 0b011#3
  | .changed _ => .cmd3 0b010#3 0b011#3
  | .buildReport _ => .cmd3 0b011#3 0b011#3
  | .idle => .ph4 0x0#4 0xF#4
  | .saveIe => .ph4 0x1#4 0xF#4
  | .cfgPins => .ph4 0x2#4 0xF#4
  | .strobeLow => .ph4 0x3#4 0xF#4
  | .strobeOut => .ph4 0x4#4 0xF#4
  | .settle => .ph4 0x5#4 0xF#4
  | .sample => .ph4 0x6#4 0xF#4
  | .releaseIn => .ph4 0x7#4 0xF#4
  | .releasePu => .ph4 0x8#4 0xF#4
  | .decode => .ph4 0x9#4 0xF#4
  | .pack => .ph4 0xA#4 0xF#4
  | .restoreIe => .ph4 0xB#4 0xF#4
  | .chg => .ph4 0xC#4 0xF#4
  | .copyDest => .ph4 0xD#4 0xF#4
  | .copyRep => .ph4 0xE#4 0xF#4

/-- Whether a word is one of a row's. A word of the other format never is. -/
def Row.covers : Row → CodeWord → Bool
  | .cmd3 p m, .cmd3 w => w &&& m == p
  | .ph4 p m, .ph4 w => w &&& m == p
  | _, _ => false

/-- The control word that a word of the opcode table's numbering stands for. Up to 3 bits it is a CMD3 word and
at 4 bits a PH4 code. Rounded up to whole bytes the two formats have the same width and the table's rows clash
at 0..3: there the table's order decides, so 0..3 are its four CMD3 rows (with the ignored bit `D` at 0) and
4..0xF are PH4 codes. DESIGN CHOICE, log 16: safe, since no step of the machine reads a word so. -/
def tableCodeWord (nbits w : Nat) : Option CodeWord :=
  if nbits ≤ 3 then
    if w < 8 then some (.cmd3 (BitVec.ofNat 3 w)) else none
  else if nbits = 4 then
    if w < 16 then some (.ph4 (BitVec.ofNat 4 w)) else none
  else if w < 4 then some (.cmd3 (BitVec.ofNat 3 w))
  else if w < 16 then some (.ph4 (BitVec.ofNat 4 w))
  else none

/-- The instruction the decoder reads from a word of the opcode table's numbering; none where it refuses. -/
def decodeTableWord (nbits w : Nat) : Option Instr :=
  match tableCodeWord nbits w with
  | some c => (decode c).toOption
  | none => none

end Sys2Proof
end

