-- ==== Sys2Proof/Machine/State.lean ====
section
/-! DEFINITION. The state of JAGSCAN and of the agents around it, as plain data (10_state.md R20, 00_scope.md
R10), the reasons a step can stop, and the state after reset (10_state.md R36). -/

namespace Sys2Proof
namespace Machine

/-- Why the machine stops with a fault: never. "JAGSCAN raises no exception, fault or trap, synchronous or
asynchronous, and has no cause codes" (60_exceptions.md R170), so the type has no constructor. Safe: log 22. -/
inductive Fault
  deriving DecidableEq, Repr

/-- Why a step has no meaning. -/
inductive Refusal where
  /-- An instruction whose meaning is still to be written; raised by `exec`. Safe. -/
  | notModelled (mnemonic : String)
  /-- A whole command is started while another runs: `refuse(reentrant)` (44_commands.md R151, R197, D19).
  Raised by the four command meanings when `PH` is not IDLE. Safe: log 9. -/
  | reentrant
  /-- The sequencer stands at `PH` = 0xF: "The spec gives no behaviour for a sequencer found there"
  (30_encoding.md R84(b), V6). Raised by `step`. Safe: log 10. -/
  | reservedPhase
  deriving DecidableEq, Repr

/-- ControllerState, the decoded state `CS` (R22, R23): `btn` in packing order, true = pressed. -/
structure ControllerState where
  x : Byte
  y : Byte
  btn : Vector Bool 17
  deriving DecidableEq, Repr

/-- How the controller agent answers a SAMPLE (41_scanner.md R110): as the ideal controller, from its closure
bits, or with readings it supplies, every one possible. -/
inductive ControllerKind where
  | ideal
  | supplied
  deriving DecidableEq, Repr

/-- A turn of one agent (00_scope.md R10). The turns to come stand in `State.agenda`. -/
inductive AgentStep where
  /-- JAGSCAN's own turn: one clock edge. -/
  | block
  /-- The driver calls a whole command, given by its word (R87; R150, last sentence). -/
  | invoke (w : CmdWord)
  /-- The driver's branch of `poll`: it calls the command if `CHANGED_Q` = 1 (R88(b)). -/
  | invokeIfChanged (w : CmdWord)
  /-- The driver sets the command port's inputs, which hold until it sets them again (R150). -/
  | drivePort (valid : Bool) (w : CmdWord)
  /-- The platform sets the reset input (R190). -/
  | driveReset (level : Bool)
  /-- The platform sets its interrupt enable; possible outside a command only (R112, R192). -/
  | platformIe (v : Bool)
  /-- The controller closes or opens the switch of a field, or opens all (R87). -/
  | press (f : Field)
  | release (f : Field)
  | releaseAll
  /-- The controller moves the switch of one of the 24 positions, with a field or without (R110). -/
  | moveSwitch (p : Position) (closed : Bool)
  /-- The controller readies one more row reading for a SAMPLE to come (R110, `rows(c)` a free input). -/
  | supply (rows : RowBits)
  /-- The asynchronous reader reads one byte of `LAST_REPORTED` (20_memory.md R59). -/
  | readerRead (i : ByteIdx)
  deriving DecidableEq, Repr

/-- The machine's state: the block's registers (R20), what it reads or writes but does not own, the signals that
hold a level, the other agents, and the model's own counter and parameters. -/
@[ext]
structure State where
  /-- `RAW[0..3]`, RawColumnSamples (R21). -/
  raw : Vector Byte 4
  /-- `LAST_READ[0..4]` (R24). -/
  lastRead : Report
  /-- `LAST_REPORTED[0..4]` (R25). -/
  lastReported : Report
  /-- `CS` (R22, R23). -/
  cs : ControllerState
  /-- `FIRST`, the first-call flag (R26). -/
  first : Bool
  /-- `CHANGED_Q`, the answer of the last CHANGED (R38). -/
  changedQ : Bool
  /-- `NWRITTEN`, the count of the last BUILDREPORT (R38). -/
  nwritten : BitVec 3
  /-- `COL_DIR[c]`, `COL_LVL[c]`, `COL_PUE[c]` (R27). -/
  colDir : Vector Bool 4
  colLvl : Vector Bool 4
  colPue : Vector Bool 4
  /-- `ROW_PUE` (R28). -/
  rowPue : Bool
  /-- `IE_SAVED` (R29). -/
  ieSaved : Bool
  /-- `PH`, `COL`, `IDX`, `CMD_Q`: the sequencer (R30). -/
  ph : PhaseCode
  col : Column
  idx : ByteIdx
  cmdQ : CmdWord
  /-- `SETTLE_CNT` (R31). -/
  settleCnt : Nat
  /-- `IE`, the platform's interrupt enable (R29). -/
  ie : Bool
  /-- `DEST[0..4]` (R32). -/
  dest : Report
  /-- `rst`, `cmd_valid`, `cmd_word`: input levels; `done`: the output pulse (R150). -/
  rst : Bool
  cmdValid : Bool
  cmdWord : CmdWord
  done : Bool
  /-- The controller agent: its kind, `SW[c][r]` (bit `r` of element `c`, true = closed) and the readings it has
  yet to supply (R110). -/
  controller : ControllerKind
  sw : Vector RowBits 4
  rowsIn : List RowBits
  /-- The bytes the asynchronous reader has read, by index (R59). -/
  readerBuf : Report
  /-- The turns of the agents to come; the block's when empty (R10). DESIGN CHOICE, log 12. -/
  agenda : List AgentStep
  /-- The model's own: the number of the next free value (R12). Log 6. -/
  draws : Nat
  /-- The open parameters (R7, R34); changed by no step. DESIGN CHOICE, log 1. -/
  cfg : Config
  deriving DecidableEq, Repr

/-- The state right after reset (R36, R191). The values of `raw`, `cs`, `dest` (log 3) and `ie` (log 4), the
levels of the input signals (log 27), the other agents' state (log 7, 12, 13) and the parameters (log 2) are
DESIGN CHOICES: the spec leaves them open. -/
def State.reset : State where
  raw := #v[0x00#8, 0x00#8, 0x00#8, 0x00#8]
  lastRead := #v[0x00#8, 0x00#8, 0x00#8, 0x00#8, 0x00#8]
  lastReported := #v[0x00#8, 0x00#8, 0x00#8, 0x00#8, 0x00#8]
  cs := { x := 0x00#8, y := 0x00#8, btn := Vector.replicate 17 false }
  first := true
  changedQ := false
  nwritten := 0#3
  colDir := #v[false, false, false, false]
  colLvl := #v[false, false, false, false]
  colPue := #v[false, false, false, false]
  rowPue := false
  ieSaved := false
  ph := 0x0#4
  col := 0
  idx := 0
  cmdQ := 0b000#3
  settleCnt := 0
  ie := true
  dest := #v[0x00#8, 0x00#8, 0x00#8, 0x00#8, 0x00#8]
  rst := false
  cmdValid := false
  cmdWord := 0b000#3
  done := false
  controller := .supplied
  sw := #v[0b000000#6, 0b000000#6, 0b000000#6, 0b000000#6]
  rowsIn := []
  readerBuf := #v[0x00#8, 0x00#8, 0x00#8, 0x00#8, 0x00#8]
  agenda := []
  draws := 0
  cfg := Config.reference

end Machine
end Sys2Proof
end

