-- ==== Sys2Proof/Machine/Operands.lean ====
section
/-! DEFINITION. The operand forms: the fields of a command word (30_encoding.md R80), the raw byte assembled from
three row sources (R72), the reading of a field through `MAP` (42_decoder.md R121). -/

namespace Sys2Proof
namespace Machine

/-- The operation field `OP` of a command word (R80). -/
def opOf (w : CmdWord) : BitVec 2 := w.extractLsb' 0 2

/-- The "destination supplied" bit `D` of a command word (R80). -/
def destSupplied (w : CmdWord) : Bool := w.getLsbD 2

/-- Whether a command word is INIT's (R81). -/
def isInit (w : CmdWord) : Bool := opOf w == 0b00#2

/-- The raw byte from its three sources (R72): `{S3[0], S2[2:0], S1[1:0]}`, bits 7:6 zero. -/
def assembleRaw (s1 : BitVec 2) (s2 : BitVec 3) (s3 : BitVec 1) : Byte :=
  (s3.setWidth 8 <<< 5) ||| (s2.setWidth 8 <<< 2) ||| s1.setWidth 8

/-- The raw byte of a row reading: `S1 = ROW[1:0]`, `S2 = ROW[4:2]`, `S3 = ROW[5]` (R72). -/
def rawOfRows (rows : RowBits) : Byte :=
  assembleRaw (rows.extractLsb' 0 2) (rows.extractLsb' 2 3) (rows.extractLsb' 5 1)

/-- `RAW[c][b]` at a position (R71). -/
def rawBit (raw : Vector Byte 4) (p : Position) : Bool := raw[p.col].getLsbD p.bit

/-- `pressed(f)`: the raw bit of the field's position is 0 (R121; active-low, R11). -/
def pressed (cfg : Config) (raw : Vector Byte 4) (f : Field) : Bool := !rawBit raw (cfg.mapOf f)

/-- What the ideal controller puts on the six row lines of a column with closures `sw`, when the floating
lines, if any, read `floating` (R110): closed reads 0; open reads 1 with row pull-ups, a free bit without. -/
def idealRows (sw : RowBits) (rowPue : Bool) (floating : RowBits) : RowBits :=
  ~~~sw &&& (if rowPue then 0b111111#6 else floating)

/-- The columns of a scan, in order (R108). -/
def scanOrder : List Column := [0, 1, 2, 3]

/-- The byte indexes of a copy, in order (R156, D20). -/
def copyOrder : List ByteIdx := [0, 1, 2, 3, 4]

end Machine
end Sys2Proof
end

