-- ==== Sys2Proof/Machine/Flags.lean ====
section
/-! DEFINITION. Flag and result computations: the comparison of CHANGED (44_commands.md R155), the count of
BUILDREPORT (R156), the flag FIRST (10_state.md R26), and the output signals of the command port (R150), each a
function of the state. -/

namespace Sys2Proof
namespace Machine

/-- Some byte of two reports differs (R155: "exists i in 0..4"). -/
def reportsDiffer (a b : Report) : Bool := copyOrder.any (fun i => a[i] != b[i])

/-- The answer of CHANGED: yes on the first call whatever the buffers hold, else the comparison (R155). -/
def changedAnswer (first : Bool) (lastRead lastReported : Report) : Bool :=
  first || reportsDiffer lastRead lastReported

/-- The byte count BUILDREPORT answers: 5 with a destination, else the parameter (R156, R158). -/
def writtenCount (cfg : Config) (d : Bool) : BitVec 3 :=
  if d then Config.reportSize else cfg.buildRetNoDest

/-- `FIRST` after SAVE_IE: set when the parameter says so, else kept (R160). -/
def firstAfterInit (cfg : Config) (first : Bool) : Bool := cfg.initRearmsFirst || first

/-- `cmd_ready`: exactly when `PH` = IDLE (R150). -/
def cmdReady (s : State) : Bool := s.ph == 0x0#4

/-- `ie_we`: in SAVE_IE and RESTORE_IE (R150, R160, R161), and not on a reset edge (R190). -/
def ieWe (s : State) : Bool := !s.rst && (s.ph == 0x1#4 || s.ph == 0xB#4)

/-- `ie_wd`: 0 in SAVE_IE, the saved value in RESTORE_IE (R160, R161). Where `ie_we` = 0 the spec gives it no level:
0 in every other phase, and the phase's own value on a reset edge, are a DESIGN CHOICE, log 32. -/
def ieWd (s : State) : Bool := s.ph == 0xB#4 && s.ieSaved

/-- `dest`, the 40-bit bus: `DEST[i]` at bits 8i+7 : 8i (R150). -/
def destBus (s : State) : BitVec 40 := s.dest[4] ++ s.dest[3] ++ s.dest[2] ++ s.dest[1] ++ s.dest[0]

/-- `report_size`, the constant 5 (R150, R89). -/
def reportSizeOut (_ : State) : BitVec 3 := Config.reportSize

/-- A byte of `DESC`, the read-only table of `DESC_SIZE` bytes (R89); none outside the table. -/
def descByte (s : State) (i : Nat) : Option Byte := s.cfg.desc[i]?

end Machine
end Sys2Proof
end

