-- ==== Sys2Proof/Machine/Ops.lean ====
section
/-! DEFINITION. The shared operations: the sequencer's moves (10_state.md R30), the three report buffers
(20_memory.md R50), the pads (10_state.md R27), the row read (41_scanner.md R110), saving and restoring the
interrupt enable (44_commands.md R160, R161), acceptance of a command (R150), and the reset edge
(70_reset_and_hazards.md R190).

There is no exception to take and none to return from (60_exceptions.md R170, R175). What stands in their place,
"state saved on entry" and "return", is `saveInterrupts` and `restoreInterrupts`. -/

namespace Sys2Proof
namespace Machine

/-! ## Phase codes (R82) -/

abbrev phIdle : PhaseCode := 0x0#4
abbrev phSaveIe : PhaseCode := 0x1#4
abbrev phCfgPins : PhaseCode := 0x2#4
abbrev phStrobeLow : PhaseCode := 0x3#4
abbrev phStrobeOut : PhaseCode := 0x4#4
abbrev phSettle : PhaseCode := 0x5#4
abbrev phSample : PhaseCode := 0x6#4
abbrev phReleaseIn : PhaseCode := 0x7#4
abbrev phReleasePu : PhaseCode := 0x8#4
abbrev phDecode : PhaseCode := 0x9#4
abbrev phPack : PhaseCode := 0xA#4
abbrev phRestoreIe : PhaseCode := 0xB#4
abbrev phChg : PhaseCode := 0xC#4
abbrev phCopyDest : PhaseCode := 0xD#4
abbrev phCopyRep : PhaseCode := 0xE#4

/-! ## Sequencer -/

/-- `PH <- p`, inside a command: `done` is low (R12, R150). -/
def goto (p : PhaseCode) (s : State) : State := { s with ph := p, done := false }

/-- The end of a command: `PH <- IDLE ; done` (R152). -/
def finish (s : State) : State := { s with ph := phIdle, done := true }

/-- `CMD_Q <- cmd_word` (R150). -/
def latch (w : CmdWord) (s : State) : State := { s with cmdQ := w }

/-- The acceptance step of R150 for a word in IDLE, by `cmd_word[1:0]`: latch the word, set the counter the
command needs, go to its first phase. -/
def accept (w : CmdWord) (s : State) : State :=
  match w.getLsbD 1, w.getLsbD 0 with
  | false, false => goto phSaveIe (latch w s)
  | false, true => goto phStrobeLow { latch w s with col := 0 }
  | true, false => goto phChg (latch w s)
  | true, true => goto (if destSupplied w then phCopyDest else phCopyRep) { latch w s with idx := 0 }

/-! ## Report buffers (R50) -/

/-- The three buffers of buffer space. -/
inductive Buf where
  | lastRead
  | lastReported
  | dest
  deriving DecidableEq, Repr

/-- `MemRead(buf, i, 1)` (R12): no side effect (R55). -/
def memRead (s : State) (b : Buf) (i : ByteIdx) : Byte :=
  match b with
  | .lastRead => s.lastRead[i]
  | .lastReported => s.lastReported[i]
  | .dest => s.dest[i]

/-- `MemWrite(buf, i, 1, v)` (R12). -/
def memWrite (s : State) (b : Buf) (i : ByteIdx) (v : Byte) : State :=
  match b with
  | .lastRead => { s with lastRead := s.lastRead.set i v }
  | .lastReported => { s with lastReported := s.lastReported.set i v }
  | .dest => { s with dest := s.dest.set i v }

/-- One byte of a copy out of `LAST_READ` (R157, R158). -/
def copyByte (b : Buf) (i : ByteIdx) (s : State) : State := memWrite s b i (memRead s .lastRead i)

/-- All five bytes of a copy, in ascending index (R156, D20). -/
def copyAll (b : Buf) (s : State) : State := copyOrder.foldl (fun t i => copyByte b i t) s

/-! ## Pads (R27, R83) -/

/-- What a pad does to its line. -/
inductive PadState where
  | low        -- L
  | high       -- H
  | pullUp     -- PU
  | floating   -- Z
  deriving DecidableEq, Repr

/-- `pad(c)` (R27). `high` is "never reached" from reset and is given its R27 value where a state shows it:
log 20. -/
def pad (s : State) (c : Column) : PadState :=
  match s.colDir[c], s.colLvl[c], s.colPue[c] with
  | true, false, _ => .low
  | true, true, _ => .high
  | false, _, true => .pullUp
  | false, _, false => .floating

/-- What the block does to a pin of the platform (R7 pin identities): the pad of the column it carries (R27), or,
where it carries a row, an input with or without its pull-up by `ROW_PUE` (R28). None for any other pin. -/
def padAtPin (s : State) (p : PinIdentity) : Option PadState :=
  match s.cfg.pins with
  | none => none
  | some m =>
    match scanOrder.find? (fun c => m.col[c] == p) with
    | some c => some (pad s c)
    | none => if m.row.toList.contains p then some (if s.rowPue then .pullUp else .floating) else none

/-- `COL_LVL[c] <- 0` for the current column (R101). -/
def assertLow (s : State) : State := { s with colLvl := s.colLvl.set s.col false }

/-- `COL_DIR[c] <- 1 ; SETTLE_CNT <- N_SETTLE` (R102). -/
def driveColumn (s : State) : State :=
  { s with colDir := s.colDir.set s.col true, settleCnt := s.cfg.nSettle }

/-- `COL_DIR[c] <- 0` (R105). -/
def releaseColumn (s : State) : State := { s with colDir := s.colDir.set s.col false }

/-- `COL_PUE[c] <- 1` (R106). -/
def pullUpColumn (s : State) : State := { s with colPue := s.colPue.set s.col true }

/-- Every column to input without pull-up, the row pull-ups on, the column counter at 0 (R100). -/
def configurePins (s : State) : State :=
  { s with
    colDir := Vector.replicate 4 false
    colPue := Vector.replicate 4 false
    rowPue := true
    col := 0 }

/-! ## The row read (R110) -/

/-- `PinRead()` at the SAMPLE of the current column (R110). The ideal controller answers from its closures, a
floating line reading a free bit; a controller that is not ideal answers with the next reading it supplies, and
with a free value when it supplies none (V3). The free value is numbered by `draws`: log 6. -/
def pinRead (s : State) : RowBits :=
  match s.controller, s.rowsIn with
  | .ideal, _ => idealRows s.sw[s.col] s.rowPue (Config.draw 6 s.draws)
  | .supplied, v :: _ => v
  | .supplied, [] => Config.draw 6 s.draws

/-- The readings left to supply after one is taken. The ideal controller takes none. -/
def rowsLeft (s : State) : List RowBits :=
  match s.controller with
  | .ideal => s.rowsIn
  | .supplied => s.rowsIn.tail

/-- `RAW[c] <- zext_8(PinRead())`, the byte assembled as R72 says (R104). Each read has a free value of its own,
used or not. -/
def sampleRows (s : State) : State :=
  { s with
    raw := s.raw.set s.col (rawOfRows (pinRead s))
    rowsIn := rowsLeft s
    draws := s.draws + 1 }

/-! ## Interrupt enable -/

/-- `IE_SAVED <- IE ; IE <- 0`, in one step, and `FIRST` re-armed if the parameter says so (R160). -/
def saveInterrupts (s : State) : State :=
  { s with ieSaved := s.ie, ie := false, first := firstAfterInit s.cfg s.first }

/-- `IE <- IE_SAVED` (R161). -/
def restoreInterrupts (s : State) : State := { s with ie := s.ieSaved }

/-! ## Reset edge -/

/-- A clock edge with `rst` = 1 (R190): every register takes its reset value whatever `PH` and `cmd_valid` are;
`IE` and `DEST` are not written. `RAW` and `CS` "keep unspecified contents that nothing reads" (R192): free
values, log 5. The other agents and the parameters are not the block's and keep their state. -/
def resetEdge (s : State) : State :=
  let k := s.draws
  { s with
    raw := Vector.ofFn (fun c : Fin 4 => Config.draw 8 (k + c))
    cs := { x := Config.draw 8 (k + 4), y := Config.draw 8 (k + 5)
            btn := Vector.ofFn (fun b : Fin 17 => (Config.draw 17 (k + 6)).getLsbD b) }
    lastRead := State.reset.lastRead
    lastReported := State.reset.lastReported
    first := true
    changedQ := false
    nwritten := 0#3
    colDir := State.reset.colDir
    colLvl := State.reset.colLvl
    colPue := State.reset.colPue
    rowPue := false
    ieSaved := false
    ph := phIdle
    col := 0
    idx := 0
    cmdQ := 0b000#3
    settleCnt := 0
    done := false
    draws := k + 7 }

end Machine
end Sys2Proof
end

