-- ==== Sys2Proof/Machine/Decoder.lean ====
section
/-! DEFINITION. The State Decoder (42_decoder.md): DECODE, assembled from its parts R120 to R126. -/

namespace Sys2Proof
namespace Machine

/-- Axes centred, all buttons false (R120). -/
def defaultState : ControllerState :=
  { x := Config.axisCenter, y := Config.axisCenter, btn := Vector.replicate 17 false }

/-- The test of one button: `if pressed(f) then CS.btn[POS(f)] <- 1` (R122). -/
def testButton (cfg : Config) (raw : Vector Byte 4) (cs : ControllerState) (b : Button) : ControllerState :=
  if pressed cfg raw (.button b) then { cs with btn := cs.btn.set (cfg.pos b) true } else cs

/-- The axis override of a direction (R123). -/
def overrideAxis (cs : ControllerState) : Dir → ControllerState
  | .north => { cs with y := Config.axisMin }
  | .south => { cs with y := Config.axisMax }
  | .west => { cs with x := Config.axisMin }
  | .east => { cs with x := Config.axisMax }

/-- The test of one direction (R124). -/
def testDir (cfg : Config) (raw : Vector Byte 4) (cs : ControllerState) (d : Dir) : ControllerState :=
  if pressed cfg raw (.dir d) then overrideAxis cs d else cs

/-- DECODE as a function (R127): defaults, the 17 button tests, then the directions in `DIR_ORDER`. The last
direction tested wins (R125). -/
def decodeState (cfg : Config) (raw : Vector Byte 4) : ControllerState :=
  cfg.dirOrder.foldl (testDir cfg raw) (Button.all.foldl (testButton cfg raw) defaultState)

/-- `CS <- Decode(RAW)` (R127). -/
def decodeRaw (s : State) : State := { s with cs := decodeState s.cfg s.raw }

/-- DECODE (R127). -/
def execDecode (s : State) : Host.Outcome State Fault Refusal :=
  .next (goto phPack (decodeRaw s))

end Machine
end Sys2Proof
end

