-- ==== Sys2Proof/Machine/Packer.lean ====
section
/-! DEFINITION. The HID report packer (43_packer.md): Pack, its inverse Unpack, and PACK. -/

namespace Sys2Proof
namespace Machine

/-- A button bit shifted to its place in a byte (R141: `CS.btn[k] << k`). -/
def bitAt (b : Bool) (k : Nat) : Byte := (BitVec.ofBool b).setWidth 8 <<< k

/-- Eight consecutive buttons, from `base`, as one byte (R141: OR over k = 0..7). -/
def packByte (btn : Vector Bool 17) (base : Fin 10) : Byte :=
  bitAt btn[base.val + 0] 0 ||| bitAt btn[base.val + 1] 1 ||| bitAt btn[base.val + 2] 2 |||
  bitAt btn[base.val + 3] 3 ||| bitAt btn[base.val + 4] 4 ||| bitAt btn[base.val + 5] 5 |||
  bitAt btn[base.val + 6] 6 ||| bitAt btn[base.val + 7] 7

/-- Pack (R141). The axis bytes are copied, not recoded; the last byte holds one button and seven zeros. -/
def pack (cs : ControllerState) : Report :=
  #v[cs.x, cs.y, packByte cs.btn 0, packByte cs.btn 8, bitAt cs.btn[16] 0]

/-- The byte index of button `k`: `2 + (k >> 3)` (R75). -/
def cursorByte (k : Fin 17) : ByteIdx := ⟨2 + k.val / 8, by omega⟩

/-- The bit of button `k` in its byte: `k & 7` (R75). -/
def cursorBit (k : Fin 17) : Nat := k.val % 8

/-- Unpack (R143). The block never unpacks; the host and the tests do. -/
def unpack (r : Report) : ControllerState :=
  { x := r[0], y := r[1], btn := Vector.ofFn (fun k : Fin 17 => r[cursorByte k].getLsbD (cursorBit k)) }

/-- `LAST_READ[0..4] <- Pack(CS)`, five bytes in one step (R140, D20). -/
def packReport (s : State) : State := { s with lastRead := pack s.cs }

/-- PACK (R140): INIT goes on to RESTORE_IE, any other command ends here. -/
def execPack (s : State) : Host.Outcome State Fault Refusal :=
  .next (if isInit s.cmdQ then goto phRestoreIe (packReport s) else finish (packReport s))

end Machine
end Sys2Proof
end

