-- ==== Sys2Proof/Machine/Scanner.lean ====
section
/-! DEFINITION. The Matrix Scanner (41_scanner.md): CFG_PINS, the six micro-operations of a column strobe, and
the composite SCAN that the whole commands run. -/

namespace Sys2Proof
namespace Machine

/-- CFG_PINS (R100). -/
def execCfgPins (s : State) : Host.Outcome State Fault Refusal :=
  .next (goto phStrobeLow (configurePins s))

/-- STROBE_LOW (R101). -/
def execStrobeLow (s : State) : Host.Outcome State Fault Refusal :=
  .next (goto phStrobeOut (assertLow s))

/-- STROBE_OUT (R102). -/
def execStrobeOut (s : State) : Host.Outcome State Fault Refusal :=
  .next (goto phSettle (driveColumn s))

/-- The counter one clock later in SETTLE: down to 1 and no further (R103). -/
def settleTick (n : Nat) : Nat := if n > 1 then n - 1 else n

/-- SETTLE, one clock of the hold (R103): the phase stays while the counter is above 1. -/
def execSettle (s : State) : Host.Outcome State Fault Refusal :=
  .next (goto (if s.settleCnt > 1 then s.ph else phSample) { s with settleCnt := settleTick s.settleCnt })

/-- SAMPLE (R104). -/
def execSample (s : State) : Host.Outcome State Fault Refusal :=
  .next (goto phReleaseIn (sampleRows s))

/-- RELEASE_IN (R105). -/
def execReleaseIn (s : State) : Host.Outcome State Fault Refusal :=
  .next (goto phReleasePu (releaseColumn s))

/-- RELEASE_PU and the loop of the scan (R106): the comparison with 3 comes before the increment, and `COL` keeps
3 after the last column. -/
def execReleasePu (s : State) : Host.Outcome State Fault Refusal :=
  .next (if s.col = 3 then goto phDecode (pullUpColumn s)
    else goto phStrobeLow { pullUpColumn s with col := s.col + 1 })

/-- The whole hold, as SETTLE leaves it: `SETTLE_CNT` counted down to 1 (R103; log 23). -/
def hold (s : State) : State := { s with settleCnt := min s.settleCnt 1 }

/-- One column of SCAN (R107): assert low, output mode, hold, sample, input mode, pull-up. -/
def scanColumn (s : State) (c : Column) : State :=
  pullUpColumn (releaseColumn (sampleRows (hold (driveColumn (assertLow { s with col := c })))))

/-- SCAN (R107, R108): the four columns in ascending order. -/
def scan (s : State) : State := scanOrder.foldl scanColumn s

end Machine
end Sys2Proof
end

