-- ==== Sys2Proof/Machine/Commands.lean ====
section
/-! DEFINITION. The micro-operations of the command port and the change tracker, and the four commands as whole
transitions (44_commands.md). -/

namespace Sys2Proof
namespace Machine

/-! ## Micro-operations -/

/-- IDLE (R150): accepts the presented word, or changes nothing (the `done` pulse ends). -/
def execIdle (s : State) : Host.Outcome State Fault Refusal :=
  .next (if s.cmdValid then accept s.cmdWord s else { s with done := false })

/-- SAVE_IE (R160). -/
def execSaveIe (s : State) : Host.Outcome State Fault Refusal :=
  .next (goto phCfgPins (saveInterrupts s))

/-- RESTORE_IE (R161). -/
def execRestoreIe (s : State) : Host.Outcome State Fault Refusal :=
  .next (finish (restoreInterrupts s))

/-- The answer of CHANGED, and `FIRST` cleared: a first call finds it set, any other finds it clear (R155). -/
def answerChanged (s : State) : State :=
  { s with changedQ := changedAnswer s.first s.lastRead s.lastReported, first := false }

/-- CHG (R155). -/
def execChg (s : State) : Host.Outcome State Fault Refusal :=
  .next (finish (answerChanged s))

/-- COPY_DEST (R157). -/
def execCopyDest (s : State) : Host.Outcome State Fault Refusal :=
  .next (if s.idx = 4 then goto phCopyRep { copyByte .dest s.idx s with idx := 0 }
    else goto s.ph { copyByte .dest s.idx s with idx := s.idx + 1 })

/-- `NWRITTEN` at the end of BUILDREPORT (R158). -/
def countWritten (d : Bool) (s : State) : State := { s with nwritten := writtenCount s.cfg d }

/-- COPY_REP (R158). `IDX` keeps the value 4 at the end. -/
def execCopyRep (s : State) : Host.Outcome State Fault Refusal :=
  .next (if s.idx = 4 then finish (countWritten (destSupplied s.cmdQ) (copyByte .lastReported s.idx s))
    else goto s.ph { copyByte .lastReported s.idx s with idx := s.idx + 1 })

/-! ## Commands

Each is one transition, the composite of its rule, and starts in IDLE only: anywhere else it is the driver's
re-entry, which has no meaning (R151). -/

/-- A command's composite `f`, started with its word; refused inside another command (R151). -/
def command (w : CmdWord) (f : State → State) (s : State) : Host.Outcome State Fault Refusal :=
  if s.ph = phIdle then .next (finish (f (latch w s))) else .refused .reentrant

/-- Scan, decode, pack: the body UPDATE and INIT share (R153, R159). -/
def acquire (s : State) : State := packReport (decodeRaw (scan s))

/-- INIT (R159). -/
def execInit (d : Bool) (s : State) : Host.Outcome State Fault Refusal :=
  command (cmdWordOf 0b00#2 d) (fun t => restoreInterrupts (acquire (configurePins (saveInterrupts t)))) s

/-- UPDATE (R153). -/
def execUpdate (d : Bool) (s : State) : Host.Outcome State Fault Refusal :=
  command (cmdWordOf 0b01#2 d) acquire s

/-- CHANGED (R154). -/
def execChanged (d : Bool) (s : State) : Host.Outcome State Fault Refusal :=
  command (cmdWordOf 0b10#2 d) answerChanged s

/-- The copies of BUILDREPORT: the destination first if one is supplied, then the baseline (R156). `IDX` ends at
4 (R158; log 23). -/
def buildCopies (d : Bool) (s : State) : State :=
  { copyAll .lastReported (if d then copyAll .dest s else s) with idx := 4 }

/-- BUILDREPORT (R156). -/
def execBuildReport (d : Bool) (s : State) : Host.Outcome State Fault Refusal :=
  command (cmdWordOf 0b11#2 d) (fun t => countWritten d (buildCopies d t)) s

end Machine
end Sys2Proof
end

