-- ==== Sys2Proof/Machine/Dispatch.lean ====
section
/-! DEFINITION. One arm per instruction, each a direct call of its meaning. -/

namespace Sys2Proof
namespace Machine

def exec (i : Instr) (s : State) : Host.Outcome State Fault Refusal :=
  match i with
  | .init d => Sys2Proof.Machine.execInit d s
  | .update d => Sys2Proof.Machine.execUpdate d s
  | .changed d => Sys2Proof.Machine.execChanged d s
  | .buildReport d => Sys2Proof.Machine.execBuildReport d s
  | .idle => Sys2Proof.Machine.execIdle s
  | .saveIe => Sys2Proof.Machine.execSaveIe s
  | .cfgPins => Sys2Proof.Machine.execCfgPins s
  | .strobeLow => Sys2Proof.Machine.execStrobeLow s
  | .strobeOut => Sys2Proof.Machine.execStrobeOut s
  | .settle => Sys2Proof.Machine.execSettle s
  | .sample => Sys2Proof.Machine.execSample s
  | .releaseIn => Sys2Proof.Machine.execReleaseIn s
  | .releasePu => Sys2Proof.Machine.execReleasePu s
  | .decode => Sys2Proof.Machine.execDecode s
  | .pack => Sys2Proof.Machine.execPack s
  | .restoreIe => Sys2Proof.Machine.execRestoreIe s
  | .chg => Sys2Proof.Machine.execChg s
  | .copyDest => Sys2Proof.Machine.execCopyDest s
  | .copyRep => Sys2Proof.Machine.execCopyRep s

end Machine
end Sys2Proof
end

