-- ==== Sys2Proof/Machine/Agents.lean ====
section
/-! DEFINITION. One turn of each agent (00_scope.md R10): the block's clock edge, the driver, the platform, the
controller (41_scanner.md R110), the asynchronous reader (20_memory.md R59); and the trace lines of
30_encoding.md R87, R88 as lists of turns. -/

namespace Sys2Proof
namespace Machine

/-- A clock edge of the block: the reset edge when `rst` = 1, which wins over everything (R190); otherwise the
micro-operation that `PH` names (R30). -/
def blockTurn (s : State) : Host.Outcome State Fault Refusal :=
  if s.rst then .next (resetEdge s)
  else match decodePhase s.ph with
    | .ok i => exec i s
    | .error .reservedPhase => .refused .reservedPhase

/-- The driver calls a whole command (R150, R153 to R159). Under `rst` = 1 the block is held in reset and no
command is accepted (R190). -/
def invokeTurn (w : CmdWord) (s : State) : Host.Outcome State Fault Refusal :=
  if s.rst then .next (resetEdge s) else exec (decodeCmd w) s

/-- `SW[c][r]` set to a level at a position (R110). -/
def setSwitchAt (p : Position) (closed : Bool) (s : State) : State :=
  let m := 1#6 <<< p.bit.val
  { s with sw := s.sw.set p.col (if closed then s.sw[p.col] ||| m else s.sw[p.col] &&& ~~~m) }

/-- The switch of a field set to a level: the one at `MAP(f)` (R110). -/
def setSwitch (f : Field) (closed : Bool) (s : State) : State := setSwitchAt (s.cfg.mapOf f) closed s

/-- The reader reads one byte of `LAST_REPORTED`; while `IE` = 0 its turn passes (R59; log 13). -/
def readerTurn (i : ByteIdx) (s : State) : State :=
  if s.ie then { s with readerBuf := s.readerBuf.set i (memRead s .lastReported i) } else s

/-- One turn of the agent that the agenda names. -/
def agentTurn (a : AgentStep) (s : State) : Host.Outcome State Fault Refusal :=
  match a with
  | .block => blockTurn s
  | .invoke w => invokeTurn w s
  | .invokeIfChanged w => if s.changedQ then invokeTurn w s else .next s
  | .drivePort v w => .next { s with cmdValid := v, cmdWord := w }
  | .driveReset level => .next { s with rst := level }
  | .platformIe v => .next (if s.ph = phIdle then { s with ie := v } else s)
  | .press f => .next (setSwitch f true s)
  | .release f => .next (setSwitch f false s)
  | .releaseAll => .next { s with sw := State.reset.sw }
  | .moveSwitch p closed => .next (setSwitchAt p closed s)
  | .supply rows => .next { s with rowsIn := s.rowsIn ++ [rows] }
  | .readerRead i => .next (readerTurn i s)

/-- A line of a program or trace (R87), and the pseudo-operations of R88. -/
inductive Line where
  | init
  | update
  | changed
  | buildReport (dest : Bool)
  | press (fs : List Field)
  | release (fs : List Field)
  | releaseAll
  | ack
  | poll
  | boot
  deriving DecidableEq, Repr

/-- The agent steps of a line (R87, R88). -/
def Line.turns : Line → List AgentStep
  | .init => [.invoke 0b000#3]
  | .update => [.invoke 0b001#3]
  | .changed => [.invoke 0b010#3]
  | .buildReport dest => [.invoke (if dest then 0b111#3 else 0b011#3)]
  | .press fs => fs.map .press
  | .release fs => fs.map .release
  | .releaseAll => [.releaseAll]
  | .ack => [.invoke 0b011#3]
  | .poll => [.invoke 0b001#3, .invoke 0b010#3, .invokeIfChanged 0b111#3]
  | .boot => [.invoke 0b000#3]

/-- The state with a program's lines next on the agenda. -/
def State.withProgram (s : State) (p : List Line) : State :=
  { s with agenda := p.flatMap Line.turns ++ s.agenda }

/-- A control word placed where the next step takes it: a phase code in the phase register with the block's turn
next, a command word as the driver's next call with the sequencer in IDLE. Log 17. -/
def placeWord (c : CodeWord) (s : State) : State :=
  match c with
  | .cmd3 w => { s with rst := false, ph := phIdle, agenda := .invoke w :: s.agenda }
  | .ph4 p => { s with rst := false, ph := p, agenda := .block :: s.agenda }

end Machine
end Sys2Proof
end

