-- ==== Sys2Proof/Machine/Step.lean ====
section
/-! DEFINITION. One step of the machine: the turn of the agent that the agenda names, the block's own when it
names none (00_scope.md R10, 20_memory.md R57). -/

namespace Sys2Proof
namespace Machine

/-- One step. -/
def step (s : State) : Host.Outcome State Fault Refusal :=
  match s.agenda with
  | [] => blockTurn s
  | a :: rest => agentTurn a { s with agenda := rest }

/-- `s` with one word of the opcode table's numbering where `step` takes its next instruction. A word of no
format leaves `s` as it is. -/
def State.withFetchWord (s : State) (nbits w : Nat) : State :=
  match tableCodeWord nbits w with
  | some c => placeWord c s
  | none => s

end Machine
end Sys2Proof
end

