-- ==== Sys2Proof/Safety.lean ====
section
/-! DEFINITION. The terms claims use: the launch premises of 70_reset_and_hazards.md R205, and the invariant of
10_state.md R35 and 41_scanner.md R109 made inductive. -/

namespace Sys2Proof
namespace Machine

/-! ## Launch premises (R205) -/

/-- `AtReset`: every register at its value of 10_state.md R36. The registers that rule leaves unspecified (`RAW`,
`CS`, `DEST`), the platform's `IE`, the other agents and the parameters are free. -/
structure AtReset (s : State) : Prop where
  lastRead : s.lastRead = Vector.replicate 5 0x00#8
  lastReported : s.lastReported = Vector.replicate 5 0x00#8
  first : s.first = true
  changedQ : s.changedQ = false
  nwritten : s.nwritten = 0#3
  colDir : s.colDir = Vector.replicate 4 false
  colLvl : s.colLvl = Vector.replicate 4 false
  colPue : s.colPue = Vector.replicate 4 false
  rowPue : s.rowPue = false
  ieSaved : s.ieSaved = false
  ph : s.ph = phIdle
  col : s.col = 0
  idx : s.idx = 0
  cmdQ : s.cmdQ = 0#3
  settleCnt : s.settleCnt = 0

/-- `Booted`: `AtReset` followed by one completed INIT. That the INIT is the whole transition, and not a run of its
phases with other agents' turns between them (R150 allows both), and that the premise is of the state right after
it and not of later ones, are DESIGN CHOICES, log 33. -/
def Booted (s : State) : Prop := ∃ s₀ d, AtReset s₀ ∧ exec (.init d) s₀ = .next s

/-- What `IdealController` gives at a SAMPLE: the ideal controller of R110 answers, with `ROW_PUE` = 1. -/
def IdealRows (s : State) : Prop := s.controller = .ideal ∧ s.rowPue = true

/-! ## The readings of a scan -/

/-- `rows(c)` of R107 for a scan that starts at `s`: what the controller supplies at the SAMPLE of column `c` when
no agent steps in between (R110). -/
def reading (s : State) (c : Column) : RowBits :=
  match s.controller, s.rowsIn[c.val]? with
  | .ideal, _ => idealRows s.sw[c] s.rowPue (Config.draw 6 (s.draws + c))
  | .supplied, some v => v
  | .supplied, none => Config.draw 6 (s.draws + c)

/-- The readings a controller has left to supply after `n` of them are taken. -/
def rowsLeftAfter (n : Nat) (s : State) : List RowBits :=
  match s.controller with
  | .ideal => s.rowsIn
  | .supplied => s.rowsIn.drop n

/-! ## Runs -/

/-- `n` steps, stopping at the first refusal. -/
def run : Nat → State → Host.Outcome State Fault Refusal
  | 0, s => .next s
  | n + 1, s =>
    match step s with
    | .next t => run n t
    | .fault r => .fault r
    | .refused r => .refused r

/-- A predicate holds now and after every number of steps. -/
def Throughout (P : State → Prop) (s : State) : Prop := ∀ n t, run n s = .next t → P t

/-- An outcome with a function applied to its next state. -/
def mapNext (f : State → State) : Host.Outcome State Fault Refusal → Host.Outcome State Fault Refusal
  | .next s => .next (f s)
  | .fault r => .fault r
  | .refused r => .refused r

/-! ## Launch premises on the whole run (R205) -/

/-- A BUILDREPORT stands between its first and its last COPY_REP. -/
abbrev MidBaselineCopy (s : State) : Prop := s.ph = phCopyRep ∧ s.idx ≠ 0

/-- The reader steps next. A turn that finds `IE` = 0 passes and is no step (log 13). -/
def readerSteps (s : State) : Bool :=
  match s.agenda with
  | .readerRead _ :: _ => s.ie
  | _ => false

/-- The next turn may write `LAST_REPORTED`: a COPY_REP, a whole BUILDREPORT, or a reset edge (10_state.md R25). -/
def writesBaseline (s : State) : Bool :=
  match s.agenda with
  | [] => s.rst || s.ph == phCopyRep
  | .block :: _ => s.rst || s.ph == phCopyRep
  | .invoke w :: _ => s.rst || opOf w == 0b11#2
  | .invokeIfChanged w :: _ => s.changedQ && (s.rst || opOf w == 0b11#2)
  | _ => false

/-- How many of `n` steps are the reader's. -/
def readsIn : Nat → State → Nat
  | 0, _ => 0
  | n + 1, s =>
    (readerSteps s).toNat +
      match step s with
      | .next t => readsIn n t
      | _ => 0

/-- The reader's guard where `k` of its reads lie behind. Its reads count in fives, one report each (log 30): it
never steps inside a baseline copy, and nothing writes `LAST_REPORTED` between the first and the last of five reads. -/
def GuardedFrom (k : Nat) (s : State) : Prop := ∀ n t, run n s = .next t →
  (readerSteps t = true → ¬ MidBaselineCopy t) ∧ (writesBaseline t = true → (k + readsIn n s) % 5 = 0)

/-- `GuardedReader`: a reader that keeps the source's discipline, its five reads never beside or around a baseline
copy (R59, R198). -/
def GuardedReader : State → Prop := GuardedFrom 0

/-- `NoReader`: no reader turn is to come. -/
def NoReader (s : State) : Prop := ∀ i, AgentStep.readerRead i ∉ s.agenda

/-- A command is presented at the next turn: the driver calls one, raises `cmd_valid`, or still holds `cmd_valid`
at 1 on a clock edge of the block (R150; log 29). -/
def presents (s : State) : Bool :=
  match s.agenda with
  | [] => s.cmdValid
  | .block :: _ => s.cmdValid
  | .invoke _ :: _ => true
  | .invokeIfChanged _ :: _ => s.changedQ
  | .drivePort v _ :: _ => v
  | _ => false

/-- `WellFormedDriver`: no command is ever presented unless `cmd_ready` = 1. -/
def WellFormedDriver : State → Prop := Throughout (fun t => presents t = true → cmdReady t = true)

/-- The next turn samples rows under `ROW_PUE` as it stands: a SAMPLE, or a whole UPDATE. A whole INIT turns the
row pull-ups on before its first SAMPLE (R100). -/
def samplesNext (s : State) : Bool :=
  !s.rst &&
    match s.agenda with
    | [] => s.ph == phSample
    | .block :: _ => s.ph == phSample
    | .invoke w :: _ => opOf w == 0b01#2
    | .invokeIfChanged w :: _ => s.changedQ && opOf w == 0b01#2
    | _ => false

/-- `IdealController`: the ideal controller of R110 throughout, with `ROW_PUE` = 1 at every SAMPLE. So it can be
taken together with `AtReset`, as the programs of 95_test_vectors.md do: DEDUCED, log 35. -/
def IdealController : State → Prop :=
  Throughout (fun t => t.controller = .ideal ∧ (samplesNext t = true → t.rowPue = true))

/-! ## The end of a program's run (R205) -/

/-- The driver has a command still to give, or one presented that the block has yet to accept. -/
def commandsLeft (s : State) : Bool :=
  s.cmdValid || s.agenda.any fun
    | .invoke _ => true
    | .invokeIfChanged _ => s.changedQ
    | .drivePort v _ => v
    | _ => false

/-- The `done` of the last command pulses, and `PH` is IDLE. -/
def lastDone (s : State) : Bool := s.done && s.ph == phIdle && !commandsLeft s

/-- The run of a program placed in `s` ends at `t`: the first state in which the `done` of its last command has
pulsed and `PH` = IDLE (R205). Turns of other agents that follow are no part of it; and a program without a command,
press lines only, has no end, a `done` left over from an earlier command being none of its own: DESIGN CHOICE, log 36. -/
def RunEndsAt (s t : State) : Prop :=
  ∃ n, 0 < n ∧ run n s = .next t ∧ lastDone t = true ∧ ∀ m u, m < n → run m s = .next u → lastDone u = false

/-! ## Values of the spec's functional forms -/

/-- The length of a command in clocks, from acceptance to IDLE (R152). -/
def commandClocks (cfg : Config) (w : CmdWord) : Nat :=
  if opOf w = 0b00#2 then 4 * (5 + cfg.nSettle) + 5
  else if opOf w = 0b01#2 then 4 * (5 + cfg.nSettle) + 2
  else if opOf w = 0b10#2 then 1
  else if destSupplied w then 10 else 5

/-- Direction `d` is tested after direction `e` (R125, R129). -/
def testedAfter (order : List Dir) (d e : Dir) : Bool := decide (order.idxOf e < order.idxOf d)

/-- The value of one axis from its two directions (R129): `lo` and `hi` say which are pressed, `hiLast` whether
the direction of the maximum is tested after the other. -/
def axisOf (lo hi hiLast : Bool) : Byte :=
  match lo, hi with
  | false, false => 0x80#8
  | true, false => 0x00#8
  | false, true => 0xff#8
  | true, true => if hiLast then 0xff#8 else 0x00#8

/-! ## Invariant -/

/-- An axis byte is one of the three codes (R73). -/
abbrev AxisLegal (v : Byte) : Prop := v = 0x00#8 ∨ v = 0x80#8 ∨ v = 0xff#8

/-- A report PACK can produce: legal axis bytes, and bits 7:1 of the last byte 0 (R35(d), R35(e), R144). -/
abbrev ReportLegal (r : Report) : Prop := AxisLegal r[0] ∧ AxisLegal r[1] ∧ r[4] &&& 0xfe#8 = 0#8

/-- The phases in which the current column is driven: STROBE_OUT is behind it, RELEASE_IN still to come
(R109(a)). -/
def driving (p : PhaseCode) : Bool := p == phSettle || p == phSample || p == phReleaseIn

/-- The phases of a scan. -/
def scanning (p : PhaseCode) : Bool := phStrobeLow ≤ p && p ≤ phReleasePu

/-- The phases after the scan inside a command. -/
def scanned (p : PhaseCode) : Bool := p == phDecode || p == phPack || p == phRestoreIe

/-- The operation a phase belongs to agrees with `CMD_Q` (30_encoding.md R82). -/
def phaseFits (p : PhaseCode) (w : CmdWord) : Bool :=
  if p == phIdle then true
  else if p == phSaveIe || p == phCfgPins || p == phRestoreIe then opOf w == 0b00#2
  else if p == phChg then opOf w == 0b10#2
  else if p == phCopyDest then w == 0b111#3
  else if p == phCopyRep then opOf w == 0b11#2
  else p != 0xF#4 && (opOf w == 0b00#2 || opOf w == 0b01#2)

/-- The invariant every step keeps. -/
structure BlockInv (s : State) : Prop where
  /-- R109(a): a column is in output mode exactly between its STROBE_OUT and its RELEASE_IN. -/
  oneColumn : ∀ c : Column, s.colDir[c] = true ↔ (c = s.col ∧ driving s.ph = true)
  /-- R35(b): the level bits stay 0, so no pad is H. -/
  levelsLow : ∀ c : Column, s.colLvl[c] = false
  /-- R109(c), (e): outside a scan the pull-ups are all on or all off; inside one they are all on, or on exactly
  for the columns already released. -/
  pullUps : (∀ c : Column, s.colPue[c] = true) ∨
    (if scanning s.ph then ∀ c : Column, s.colPue[c] = true ↔ c < s.col
     else scanned s.ph = false ∧ ∀ c : Column, s.colPue[c] = false)
  /-- R109(c): in the scan inside INIT exactly the columns already released have their pull-ups. -/
  initFloats : opOf s.cmdQ = 0b00#2 → scanning s.ph = true → ∀ c : Column, s.colPue[c] = true ↔ c < s.col
  /-- R35(c), R109(b): after a completed INIT or UPDATE every column is idle with its pull-up on. -/
  released : s.ph = phIdle → s.done = true → (opOf s.cmdQ = 0b00#2 ∨ opOf s.cmdQ = 0b01#2) →
    ∀ c : Column, s.colPue[c] = true
  /-- R35(d), (e). -/
  lastReadLegal : ReportLegal s.lastRead
  lastReportedLegal : ReportLegal s.lastReported
  /-- R22: what PACK is about to read is a decoded state. -/
  decoded : s.ph = phPack → AxisLegal s.cs.x ∧ AxisLegal s.cs.y
  /-- R82, R84(b): the phase is one of the command in `CMD_Q`, and never 0xF. -/
  phaseOfCommand : phaseFits s.ph s.cmdQ = true
  /-- R106: after the scan `COL` stands at 3. -/
  lastColumn : scanned s.ph = true → s.col = 3
  /-- R58, R112: inside INIT the interrupt enable is 0. -/
  maskedInInit : opOf s.cmdQ = 0b00#2 → s.ph ≠ phIdle → s.ph ≠ phSaveIe → s.ie = false
  /-- R31: the settle counter never exceeds what it is loaded with. -/
  settleBound : s.settleCnt ≤ s.cfg.nSettle
  /-- R157, R158: the bytes of a copy below `IDX` are copied. -/
  destCopied : s.ph = phCopyDest → ∀ i : ByteIdx, i < s.idx → s.dest[i] = s.lastRead[i]
  destDone : s.ph = phCopyRep → destSupplied s.cmdQ = true → s.dest = s.lastRead
  repCopied : s.ph = phCopyRep → ∀ i : ByteIdx, i < s.idx → s.lastReported[i] = s.lastRead[i]

/-- Once a scan is completed: every column has its pull-up, unless an INIT is running, which takes them off and
puts them back (R109(b), (c), (e)). Every step but a reset edge keeps it. -/
def PullUpsKept (s : State) : Prop :=
  (∀ c : Column, s.colPue[c] = true) ∨ (opOf s.cmdQ = 0b00#2 ∧ s.ph ≠ phIdle)


end Machine
end Sys2Proof
end

