-- ==== Sys2Proof/Certificates/Slice0/Obligations.lean ====
section
/-! DEFINITION. The statements for the provers. Each formalises a rule of the spec named in OBLIGATIONS.json; the
texts there say what each states. Phase codes and words are written out from 30_encoding.md R81 and R82. -/

open Sys2Proof Sys2Proof.Machine

/-- Right after reset cmd_ready = 1, CHANGED_Q = 0, NWRITTEN = 0, all four pads are Z and the row pull-ups off,
LAST_READ and LAST_REPORTED are five zero bytes, FIRST = 1; every register with a reset value in R36 has it
(AtReset). (R191) -/
def Obligations.ResetLeavesIdleBlock : Prop :=
  cmdReady State.reset = true ∧ State.reset.changedQ = false ∧ State.reset.nwritten = 0#3 ∧
  (∀ c, pad State.reset c = .floating) ∧ State.reset.rowPue = false ∧
  State.reset.lastRead = Vector.replicate 5 0x00#8 ∧ State.reset.lastReported = Vector.replicate 5 0x00#8 ∧
  State.reset.first = true ∧ AtReset State.reset

/-- For every state with rst = 1, whatever PH and cmd_valid are: the block's clock edge leaves every register
that R36 gives a value at that value, and leaves IE, DEST, the other agents' state and the parameters as they
were; a whole command called under rst = 1 meets the same reset edge. That done is low after the edge (log 15)
and that a call meets the edge too (log 27) are the model's choices. (70_reset_and_hazards.md R190, 10_state.md
R36) -/
def Obligations.ResetEdgeLoadsResetValues : Prop :=
  ∀ s : State, s.rst = true →
    (∃ t, blockTurn s = .next t ∧ AtReset t ∧ t.ie = s.ie ∧ t.dest = s.dest ∧ t.done = false ∧
      t.rst = s.rst ∧ t.cmdValid = s.cmdValid ∧ t.cmdWord = s.cmdWord ∧ t.controller = s.controller ∧
      t.sw = s.sw ∧ t.rowsIn = s.rowsIn ∧ t.readerBuf = s.readerBuf ∧ t.agenda = s.agenda ∧ t.cfg = s.cfg) ∧
    (∀ w, invokeTurn w s = blockTurn s)

/-- The eight command words of R81 and the fifteen phase codes of R82 decode as those maps say; phase code 0xF
is rejected by name. (30_encoding.md R81, 30_encoding.md R82) -/
def Obligations.OpcodeWordsDecode : Prop :=
  [0b000#3, 0b100#3, 0b001#3, 0b101#3, 0b010#3, 0b110#3, 0b011#3, 0b111#3].map decodeCmd =
    [.init false, .init true, .update false, .update true, .changed false, .changed true,
      .buildReport false, .buildReport true] ∧
  [0x0#4, 0x1#4, 0x2#4, 0x3#4, 0x4#4, 0x5#4, 0x6#4, 0x7#4, 0x8#4, 0x9#4, 0xA#4, 0xB#4, 0xC#4, 0xD#4, 0xE#4].map
      (fun p => (decodePhase p).toOption) =
    [some .idle, some .saveIe, some .cfgPins, some .strobeLow, some .strobeOut, some .settle, some .sample,
      some .releaseIn, some .releasePu, some .decode, some .pack, some .restoreIe, some .chg, some .copyDest,
      some .copyRep] ∧
  decodePhase 0xF#4 = .error .reservedPhase

/-- For every well-formed instruction, with D at either value, decode of encode is the instruction; and encode
of every word that decodes is that word, so no bit of an encoding is dropped. (30_encoding.md R80,
30_encoding.md R81, 30_encoding.md R82) -/
def Obligations.DecodeInvertsEncode : Prop :=
  (∀ i : Instr, i.wf → decode (encode i) = .ok i) ∧
  (∀ (c : CodeWord) (i : Instr), decode c = .ok i → encode i = c)

/-- A control word decodes to an instruction exactly when the match and mask of that instruction's opcode-table
row cover the word (up to the D bit, which no row's mask holds): the rows of one format never overlap, and the
word 0xF of PH4 is covered by none. (30_encoding.md R81, 30_encoding.md R82, 30_encoding.md R84) -/
def Obligations.OpcodeRowsCoverOneInstruction : Prop :=
  (∀ (c : CodeWord) (i j : Instr), decode c = .ok i → ((tableRow j).covers c = true ↔ tableRow j = tableRow i)) ∧
  (∀ j : Instr, (tableRow j).covers (.ph4 0xF#4) = false)

/-- With the reset input low: when the block moves (empty agenda, or its turn next) and PH decodes to i, the
step is exec i; when the driver calls a command word next, the step is exec of the decoded command. The agenda
loses the turn taken; nothing else is added around exec. That the next turn is the head of the agenda, that an
empty agenda means the block (log 12) and that a call is one whole transition (log 8) are the model's choices;
the rules cited give the agents, the sequencer and the acceptance. (10_state.md R30, 44_commands.md R150,
00_scope.md R10) -/
def Obligations.StepRunsDecodedInstruction : Prop :=
  (∀ s i, s.rst = false → s.agenda = [] → decodePhase s.ph = .ok i → step s = exec i s) ∧
  (∀ s i rest, s.rst = false → s.agenda = .block :: rest → decodePhase s.ph = .ok i →
    step s = exec i { s with agenda := rest }) ∧
  (∀ s w rest, s.rst = false → s.agenda = .invoke w :: rest →
    step s = exec (decodeCmd w) { s with agenda := rest }) ∧
  (∀ s w rest, s.rst = false → s.agenda = .invokeIfChanged w :: rest →
    step s = if s.changedQ then exec (decodeCmd w) { s with agenda := rest } else .next { s with agenda := rest })

/-- For every state and every word of the opcode table's numbering that decodes: the step after withFetchWord is
exec of the decoded instruction, at the state with rst low, PH at the placed phase (IDLE for a command), and the
agenda as before. The numbering decodeTableWord reads (log 16) and the place withFetchWord gives a word (log 17)
are the model's choices; the rules cited say where the block takes a phase and the port a command. (10_state.md
R30, 44_commands.md R150) -/
def Obligations.PlacedWordRunsNext : Prop :=
  ∀ (s : State) (nbits w : Nat) (i : Instr), decodeTableWord nbits w = some i →
    ∃ p : PhaseCode, step (s.withFetchWord nbits w) = exec i { s with rst := false, ph := p } ∧
      (encode i = .ph4 p ∨ (p = 0x0#4 ∧ ∃ c, encode i = .cmd3 c))

/-- With rst low and PH = 0xF the block's turn is refused by name; on a reset edge it is not, since the reset
wins over every phase. The refusal by name is the model's reading (log 10) of R84(b), which gives no behaviour
there, and of V6, which asks for a refusal. (30_encoding.md R84, 93_implementation_defined.md V6,
70_reset_and_hazards.md R190) -/
def Obligations.ReservedPhaseIsRefused : Prop :=
  ∀ s : State, s.ph = 0xF#4 → s.agenda = [] →
    (s.rst = false → step s = .refused .reservedPhase) ∧ (s.rst = true → ∃ t, step s = .next t ∧ t.ph = 0x0#4)

/-- While PH is not IDLE the levels on cmd_valid and cmd_word change nothing of the block's clock edge and are
not remembered; at the level of whole commands a call started there is refused as re-entry, for each of the four
commands. (R151) -/
def Obligations.OneCommandAtATime : Prop :=
  (∀ s v w, s.ph ≠ 0x0#4 →
    blockTurn { s with cmdValid := v, cmdWord := w } =
      mapNext (fun t => { t with cmdValid := v, cmdWord := w }) (blockTurn s)) ∧
  (∀ s w, s.ph ≠ 0x0#4 → exec (decodeCmd w) s = .refused .reentrant)

/-- IDLE with cmd_valid = 1 latches the word in CMD_Q and goes to the first phase of the operation in bits 1:0
(COL cleared for UPDATE, IDX cleared for BUILDREPORT, whose bit D chooses COPY_DEST or COPY_REP); with cmd_valid
= 0 nothing changes but that the done pulse ends. All other state is unchanged. (44_commands.md R150,
30_encoding.md R81) -/
def Obligations.IdleAcceptsPresentedCommand : Prop :=
  (∀ s : State, s.cmdValid = false → exec .idle s = .next { s with done := false }) ∧
  (∀ s : State, s.cmdValid = true → s.cmdWord.extractLsb' 0 2 = 0b00#2 →
    exec .idle s = .next { s with cmdQ := s.cmdWord, ph := 0x1#4, done := false }) ∧
  (∀ s : State, s.cmdValid = true → s.cmdWord.extractLsb' 0 2 = 0b01#2 →
    exec .idle s = .next { s with cmdQ := s.cmdWord, col := 0, ph := 0x3#4, done := false }) ∧
  (∀ s : State, s.cmdValid = true → s.cmdWord.extractLsb' 0 2 = 0b10#2 →
    exec .idle s = .next { s with cmdQ := s.cmdWord, ph := 0xC#4, done := false }) ∧
  (∀ s : State, s.cmdValid = true → s.cmdWord = 0b111#3 →
    exec .idle s = .next { s with cmdQ := 0b111#3, idx := 0, ph := 0xD#4, done := false }) ∧
  (∀ s : State, s.cmdValid = true → s.cmdWord = 0b011#3 →
    exec .idle s = .next { s with cmdQ := 0b011#3, idx := 0, ph := 0xE#4, done := false })

/-- SAVE_IE writes IE_SAVED with IE, clears IE, sets FIRST if INIT_REARMS_FIRST is true and leaves it otherwise,
and goes to CFG_PINS; all other state is unchanged. (R160) -/
def Obligations.SaveIeSavesAndMasks : Prop :=
  ∀ s : State, exec .saveIe s = .next { s with
    ieSaved := s.ie, ie := false, first := if s.cfg.initRearmsFirst then true else s.first, ph := 0x2#4, done := false }

/-- RESTORE_IE writes IE with IE_SAVED (an IE that was 0 stays 0), returns to IDLE and pulses done; all other
state is unchanged. (R161) -/
def Obligations.RestoreIeRestores : Prop :=
  ∀ s : State, exec .restoreIe s = .next { s with ie := s.ieSaved, ph := 0x0#4, done := true }

/-- CFG_PINS puts every column to input without pull-up, turns the row pull-ups on, clears COL and goes to
STROBE_LOW; COL_LVL and all other state are unchanged, and every pad is then Z. (R100) -/
def Obligations.CfgPinsFloatsColumns : Prop :=
  ∀ s : State, ∃ t, exec .cfgPins s = .next t ∧ (∀ c, pad t c = .floating) ∧
    t = { s with
      colDir := Vector.replicate 4 false, colPue := Vector.replicate 4 false, rowPue := true, col := 0
      ph := 0x3#4, done := false }

/-- STROBE_LOW clears COL_LVL of the current column, goes to STROBE_OUT and changes nothing else; where the
levels are already low every pad stays as it was. (R101) -/
def Obligations.StrobeLowClearsLevel : Prop :=
  ∀ s : State, ∃ t, exec .strobeLow s = .next t ∧
    t = { s with colLvl := s.colLvl.set s.col false, ph := 0x4#4, done := false } ∧
    ((∀ c : Column, s.colLvl[c] = false) → t.colLvl = s.colLvl ∧ ∀ c, pad t c = pad s c)

/-- STROBE_OUT puts the current column in output mode, loads SETTLE_CNT with N_SETTLE, goes to SETTLE and
changes nothing else; with the level bit low the column's pad is L, and no other pad changes. Where no other
column is in output mode, exactly the current column then is. (R102) -/
def Obligations.StrobeOutDrivesColumn : Prop :=
  ∀ s : State, ∃ t, exec .strobeOut s = .next t ∧
    t = { s with colDir := s.colDir.set s.col true, settleCnt := s.cfg.nSettle, ph := 0x5#4, done := false } ∧
    (s.colLvl[s.col] = false → pad t s.col = .low) ∧ (∀ c, c ≠ s.col → pad t c = pad s c) ∧
    ((∀ c, c ≠ s.col → s.colDir[c] = false) → ∀ c : Column, t.colDir[c] = true ↔ c = s.col)

/-- One clock of SETTLE decrements a counter above 1 and stays, else goes to SAMPLE; nothing else changes. So a
block in SETTLE with counter n at least 1 and no other agent's turn is still in SETTLE after each of n - 1
clocks and in SAMPLE after n, the counter then at 1; and with a legal configuration N_SETTLE clocks last at
least 2 ms. R103 asks for at least that hold: that it lasts exactly the loaded count is the model's choice (log
26), and so is the unit of F_CLK, a whole number of hertz (log 34). (41_scanner.md R103, 10_state.md R31,
00_scope.md R7) -/
def Obligations.SettleHoldsForItsClocks : Prop :=
  (∀ s : State, s.settleCnt > 1 → exec .settle s = .next { s with settleCnt := s.settleCnt - 1, done := false }) ∧
  (∀ s : State, ¬ s.settleCnt > 1 → exec .settle s = .next { s with ph := 0x6#4, done := false }) ∧
  (∀ s : State, s.ph = 0x5#4 → s.agenda = [] → s.rst = false → 1 ≤ s.settleCnt →
    (∀ k, k < s.settleCnt → ∃ t, run k s = .next t ∧ t.ph = 0x5#4 ∧ t.settleCnt = s.settleCnt - k) ∧
    run s.settleCnt s = .next { s with settleCnt := 1, ph := 0x6#4, done := false }) ∧
  (∀ c : Config, c.wf → 2 * c.fClk ≤ 1000 * c.nSettle)

/-- SAMPLE writes the raw byte of the current column with the zero-extended row reading, so that bits 5:0 are
the six rows and bits 7:6 are 0, and goes to RELEASE_IN. A reading the controller supplies is taken as it is,
whatever it is, and is used up. Nothing else of the state changes but the number of the model's next free value.
That a supplied reading is used up (log 7) and the numbering of free values (log 6) are the model's choices.
(41_scanner.md R104, 41_scanner.md R110) -/
def Obligations.SampleStoresRowReading : Prop :=
  (∀ s : State, exec .sample s = .next { s with
    raw := s.raw.set s.col ((pinRead s).setWidth 8), rowsIn := rowsLeft s, draws := s.draws + 1
    ph := 0x7#4, done := false }) ∧
  (∀ s v rest, s.controller = .supplied → s.rowsIn = v :: rest → pinRead s = v ∧ rowsLeft s = rest)

/-- The byte assembled from a 2-bit, a 3-bit and a 1-bit source is the zero-extended concatenation S3, S2, S1:
each source bit at its own raw bit, bits 7:6 zero; split from ROW as ROW[1:0], ROW[4:2], ROW[5] it is the
zero-extended row reading. (R72) -/
def Obligations.RawByteFromThreeSources : Prop :=
  (∀ (s1 : BitVec 2) (s2 : BitVec 3) (s3 : BitVec 1), assembleRaw s1 s2 s3 = (s3 ++ s2 ++ s1).setWidth 8) ∧
  (∀ rows : RowBits, rawOfRows rows = rows.setWidth 8)

/-- With the ideal controller each row line of the current column reads 0 where the switch is closed, and 1
where it is open and the row pull-ups are on; where it is open and they are off it reads the free value of this
read. The controller that is not ideal reads what it supplies, and the free value of this read when it has
nothing ready. The numbering of the free values (log 6) and a controller with nothing ready (log 7) are the
model's choices. (41_scanner.md R110, 00_scope.md R12) -/
def Obligations.IdealControllerReading : Prop :=
  ∀ s : State, (s.controller = .ideal → ∀ r : Fin 6,
      ((s.sw[s.col]).getLsbD r = true → (pinRead s).getLsbD r = false) ∧
      ((s.sw[s.col]).getLsbD r = false → s.rowPue = true → (pinRead s).getLsbD r = true) ∧
      ((s.sw[s.col]).getLsbD r = false → s.rowPue = false →
        (pinRead s).getLsbD r = (Config.draw 6 s.draws).getLsbD r)) ∧
    (s.controller = .supplied → (∀ v rest, s.rowsIn = v :: rest → pinRead s = v) ∧
      (s.rowsIn = [] → pinRead s = Config.draw 6 s.draws))

/-- RELEASE_IN puts the current column back to input mode and goes to RELEASE_PU; its pad is then PU or Z by its
pull-up bit, never H, and nothing else changes. (R105) -/
def Obligations.ReleaseInStopsDriving : Prop :=
  ∀ s : State, ∃ t, exec .releaseIn s = .next t ∧
    t = { s with colDir := s.colDir.set s.col false, ph := 0x8#4, done := false } ∧
    pad t s.col = (if s.colPue[s.col] then .pullUp else .floating)

/-- RELEASE_PU turns the current column's pull-up on; column 3 goes on to DECODE with COL kept at 3, any other
column goes to STROBE_LOW with COL one higher. Nothing else changes. (R106) -/
def Obligations.ReleasePuAdvancesScan : Prop :=
  (∀ s : State, s.col = 3 → exec .releasePu s = .next { s with
    colPue := s.colPue.set s.col true, ph := 0x9#4, done := false }) ∧
  (∀ s : State, s.col ≠ 3 → ∃ c : Column, c.val = s.col.val + 1 ∧ exec .releasePu s = .next { s with
    colPue := s.colPue.set s.col true, col := c, ph := 0x3#4, done := false })

/-- For every legal configuration and every raw sample, DECODE goes to PACK with CS as the function of R129:
each button bit is 1 exactly when its mapped raw bit is 0; each axis is 0x80, 0x00 or 0xff by which of its two
directions are pressed, the later-tested one winning when both are. RAW and all other state are unchanged.
(R129) -/
def Obligations.DecodeMeetsFunctionalForm : Prop :=
  ∀ s : State, s.cfg.wf → ∃ cs, exec .decode s = .next { s with cs := cs, ph := 0xA#4, done := false } ∧
    (∀ b, cs.btn[s.cfg.pos b] = !(s.raw[(s.cfg.mapOf (.button b)).col]).getLsbD (s.cfg.mapOf (.button b)).bit) ∧
    cs.y = axisOf (pressed s.cfg s.raw (.dir .north)) (pressed s.cfg s.raw (.dir .south))
      (testedAfter s.cfg.dirOrder .south .north) ∧
    cs.x = axisOf (pressed s.cfg s.raw (.dir .west)) (pressed s.cfg s.raw (.dir .east))
      (!testedAfter s.cfg.dirOrder .west .east)

/-- Two raw samples that agree on the mapped bit of each of the 21 fields lead DECODE to the same state but for
RAW: bits 7:6 and the unmapped positions change nothing. (R126) -/
def Obligations.DecodeReadsMappedBitsOnly : Prop :=
  ∀ s raw, (∀ f, rawBit raw (s.cfg.mapOf f) = rawBit s.raw (s.cfg.mapOf f)) →
    exec .decode { s with raw := raw } = mapNext (fun t => { t with raw := raw }) (exec .decode s)

/-- (a) Raw samples whose six row bits are all set decode to both axes centred and no button; (b) raw samples
with only bit 0 of column 3 cleared among the row bits decode to the same but for button A. Bits 7:6 are
arbitrary. (R128) -/
def Obligations.SourceScenariosDecode : Prop :=
  ∀ cfg : Config, cfg.wf → ∀ raw : Vector Byte 4,
    ((∀ c : Column, raw[c] &&& 0x3f#8 = 0x3f#8) →
      decodeState cfg raw = { x := 0x80#8, y := 0x80#8, btn := Vector.replicate 17 false }) ∧
    ((∀ c : Column, raw[c] &&& 0x3f#8 = if c = 3 then 0x3e#8 else 0x3f#8) →
      decodeState cfg raw = { x := 0x80#8, y := 0x80#8, btn := (Vector.replicate 17 false).set 0 true })

/-- PACK overwrites all five bytes of LAST_READ: the two axis bytes copied, button k at bit k mod 8 of byte 2 +
k div 8, bits 7:1 of the last byte 0; INIT goes on to RESTORE_IE, any other command ends in IDLE with done.
LAST_REPORTED and all other state are unchanged. (R140, R75) -/
def Obligations.PackWritesReport : Prop :=
  ∀ s : State, ∃ r : Report,
    (s.cmdQ.extractLsb' 0 2 = 0b00#2 → exec .pack s = .next { s with lastRead := r, ph := 0xB#4, done := false }) ∧
    (s.cmdQ.extractLsb' 0 2 ≠ 0b00#2 → exec .pack s = .next { s with lastRead := r, ph := 0x0#4, done := true }) ∧
    r[0] = s.cs.x ∧ r[1] = s.cs.y ∧
    (∀ k : Fin 17, (r[2 + k.val / 8]'(by omega)).getLsbD (k.val % 8) = s.cs.btn[k]) ∧
    (∀ j, 1 ≤ j → r[4].getLsbD j = false)

/-- Unpack of Pack is the identity on decoded states, so Pack is injective; Pack of Unpack gives a report back
exactly when bits 7:1 of its last byte are 0. (R143) -/
def Obligations.UnpackInvertsPack : Prop :=
  (∀ cs, unpack (pack cs) = cs) ∧ (∀ cs cs', pack cs = pack cs' → cs = cs') ∧
  (∀ r : Report, pack (unpack r) = r ↔ r[4].extractLsb' 1 7 = 0#7)

/-- With POS_STAR = 14 and POS_ZERO = 15: byte 2 holds A, B, C, OPT, PAUSE, K3, K2, K1 at bits 0 to 7, byte 3
K6, K5, K4, K9, K8, K7, KSTAR, K0, byte 4 KHASH at bit 0 and zeros above. (30_encoding.md R76, 30_encoding.md
R77, 30_encoding.md R78, 30_encoding.md R75) -/
def Obligations.PackingOrderOfKeys : Prop :=
  ∀ (cfg : Config) (cs : ControllerState), cfg.posStar = 14 → cfg.posZero = 15 →
    (pack cs)[2] = [Button.k1, .k2, .k3, .pause, .opt, .btnC, .btnB, .btnA].foldl
      (fun (v : BitVec 8) b => v <<< 1 ||| (BitVec.ofBool cs.btn[cfg.pos b]).setWidth 8) 0#8 ∧
    (pack cs)[3] = [Button.k0, .kStar, .k7, .k8, .k9, .k4, .k5, .k6].foldl
      (fun (v : BitVec 8) b => v <<< 1 ||| (BitVec.ofBool cs.btn[cfg.pos b]).setWidth 8) 0#8 ∧
    (pack cs)[4] = (BitVec.ofBool cs.btn[cfg.pos .kHash]).setWidth 8

/-- CHG with FIRST = 1 answers 1 whatever the buffers hold and clears FIRST; with FIRST = 0 it answers 1 exactly
when some byte of LAST_READ differs from LAST_REPORTED. It returns to IDLE with done, and changes nothing else;
neither buffer is written. (R155) -/
def Obligations.ChgAnswersAndConsumesFirst : Prop :=
  (∀ s : State, s.first = true → exec .chg s = .next { s with first := false, changedQ := true, ph := 0x0#4, done := true }) ∧
  (∀ s : State, s.first = false → ∃ q : Bool, (q = true ↔ ∃ i : ByteIdx, s.lastRead[i] ≠ s.lastReported[i]) ∧
    exec .chg s = .next { s with changedQ := q, ph := 0x0#4, done := true })

/-- COPY_DEST copies the byte at IDX from LAST_READ to DEST; at index 4 it clears IDX and goes to COPY_REP, else
IDX is one higher and the phase stays. Every other byte of the three buffers and all other state are unchanged.
(R157) -/
def Obligations.CopyDestMovesOneByte : Prop :=
  (∀ s : State, s.idx = 4 → exec .copyDest s = .next { s with
    dest := s.dest.set s.idx s.lastRead[s.idx], idx := 0, ph := 0xE#4, done := false }) ∧
  (∀ s : State, s.idx ≠ 4 → ∃ i : ByteIdx, i.val = s.idx.val + 1 ∧ exec .copyDest s = .next { s with
    dest := s.dest.set s.idx s.lastRead[s.idx], idx := i, done := false })

/-- COPY_REP copies the byte at IDX from LAST_READ to LAST_REPORTED; at index 4 it writes NWRITTEN with 5 if
CMD_Q[2] = 1, else with BUILD_RET_NODEST, and ends the command with IDX kept; else IDX is one higher and the
phase stays. Every other byte of the three buffers and all other state are unchanged. (R158) -/
def Obligations.CopyRepMovesOneByte : Prop :=
  (∀ s : State, s.idx = 4 → exec .copyRep s = .next { s with
    lastReported := s.lastReported.set s.idx s.lastRead[s.idx]
    nwritten := if s.cmdQ.getLsbD 2 then 5#3 else s.cfg.buildRetNoDest, ph := 0x0#4, done := true }) ∧
  (∀ s : State, s.idx ≠ 4 → ∃ i : ByteIdx, i.val = s.idx.val + 1 ∧ exec .copyRep s = .next { s with
    lastReported := s.lastReported.set s.idx s.lastRead[s.idx], idx := i, done := false })

/-- In IDLE, UPDATE (D ignored) stores the four row readings, zero-extended, in RAW, decodes them into CS and
packs CS into LAST_READ; every column is left input with pull-up, COL at 3. LAST_REPORTED, FIRST, CHANGED_Q,
NWRITTEN, DEST, ROW_PUE, IE, IE_SAVED and all else are unchanged but for what the next sentence names. The
values of SETTLE_CNT (counted down), the numbering of free values, and that the readings a controller supplies
are used up, are the model's (log 23, 6, 7). (44_commands.md R153, 41_scanner.md R107) -/
def Obligations.UpdateAcquiresReport : Prop :=
  ∀ d s, s.ph = 0x0#4 → ∃ raw : Vector Byte 4,
    (∀ c : Column, raw[c] = (reading s c).setWidth 8) ∧
    exec (.update d) s = .next { s with
      raw := raw, cs := decodeState s.cfg raw, lastRead := pack (decodeState s.cfg raw)
      colDir := Vector.replicate 4 false, colLvl := Vector.replicate 4 false, colPue := Vector.replicate 4 true
      col := 3, settleCnt := min s.cfg.nSettle 1, cmdQ := BitVec.ofBool d ++ 0b01#2, ph := 0x0#4, done := true
      rowsIn := rowsLeftAfter 4 s, draws := s.draws + 4 }

/-- In IDLE, INIT (D ignored) turns the row pull-ups on, runs exactly the body of UPDATE, saves IE and restores
it, and sets FIRST only if INIT_REARMS_FIRST is true. LAST_REPORTED, CHANGED_Q, NWRITTEN, DEST and all else are
unchanged but for what the next sentence names. The values of SETTLE_CNT, the numbering of free values, and that
the readings a controller supplies are used up, are the model's (log 23, 6, 7). (44_commands.md R159,
41_scanner.md R107) -/
def Obligations.InitAcquiresReportMasked : Prop :=
  ∀ d s, s.ph = 0x0#4 → ∃ raw : Vector Byte 4,
    (∀ c : Column, raw[c] = (reading { s with rowPue := true } c).setWidth 8) ∧
    exec (.init d) s = .next { s with
      raw := raw, cs := decodeState s.cfg raw, lastRead := pack (decodeState s.cfg raw)
      colDir := Vector.replicate 4 false, colLvl := Vector.replicate 4 false, colPue := Vector.replicate 4 true
      rowPue := true, ieSaved := s.ie, ie := s.ie, first := if s.cfg.initRearmsFirst then true else s.first
      col := 3, settleCnt := min s.cfg.nSettle 1, cmdQ := BitVec.ofBool d ++ 0b00#2, ph := 0x0#4, done := true
      rowsIn := rowsLeftAfter 4 s, draws := s.draws + 4 }

/-- In IDLE, CHANGED (D ignored) answers 1 on a first call, else 1 exactly when LAST_READ and LAST_REPORTED
differ in a byte; FIRST is 0 after it. Nothing else changes but CMD_Q and done. (R154) -/
def Obligations.ChangedAnswers : Prop :=
  ∀ d s, s.ph = 0x0#4 → ∃ q : Bool,
    (q = true ↔ (s.first = true ∨ ∃ i : ByteIdx, s.lastRead[i] ≠ s.lastReported[i])) ∧
    exec (.changed d) s = .next { s with
      changedQ := q, first := false, cmdQ := BitVec.ofBool d ++ 0b10#2, ph := 0x0#4, done := true }

/-- In IDLE, BUILDREPORT copies LAST_READ into LAST_REPORTED, and into DEST exactly when D = 1 (D = 0 leaves
DEST as it was); NWRITTEN becomes 5 with a destination and BUILD_RET_NODEST without; IDX ends at 4. LAST_READ,
FIRST, CHANGED_Q and all else are unchanged. The final value of IDX is read from R158's last step and not from
R156 (log 23). (44_commands.md R156, 44_commands.md R158) -/
def Obligations.BuildReportAdvancesBaseline : Prop :=
  (∀ s : State, s.ph = 0x0#4 → exec (.buildReport true) s = .next { s with
    dest := s.lastRead, lastReported := s.lastRead, nwritten := 5#3, idx := 4
    cmdQ := 0b111#3, ph := 0x0#4, done := true }) ∧
  (∀ s : State, s.ph = 0x0#4 → exec (.buildReport false) s = .next { s with
    lastReported := s.lastRead, nwritten := s.cfg.buildRetNoDest, idx := 4
    cmdQ := 0b011#3, ph := 0x0#4, done := true })

/-- For every command word presented in IDLE, with the reset input low, no other agent stepping and N_SETTLE at
least 1: after the acceptance clock and the number of clocks R152 gives the command, the block stands exactly
where the whole command taken as one transition puts it. That a command is also one whole transition (log 8),
the final values of its counters (log 23) and a hold of exactly N_SETTLE clocks (log 26) are the model's
readings. (44_commands.md R150, 44_commands.md R152, 44_commands.md R153, 44_commands.md R156, 44_commands.md
R159, 30_encoding.md R82) -/
def Obligations.CommandEqualsItsPhases : Prop :=
  ∀ s : State, 1 ≤ s.cfg.nSettle → s.ph = 0x0#4 → s.agenda = [] → s.rst = false → s.cmdValid = true →
    run (1 + commandClocks s.cfg s.cmdWord) s = exec (decodeCmd s.cmdWord) s

/-- (a) After an INIT with FIRST still armed (no CHANGED since reset: in particular after boot), or after any
INIT with INIT_REARMS_FIRST, CHANGED answers 1; (b) right after a BUILDREPORT with FIRST = 0 CHANGED answers 0;
(c) an UPDATE whose decoded state differs from the one packed in the baseline makes CHANGED answer 1; (d) after
any BUILDREPORT LAST_REPORTED = LAST_READ. 'After boot' is the premise Booted, which means the state right after
a whole INIT from AtReset: that is the model's choice (log 33). (44_commands.md R163, 70_reset_and_hazards.md
R205) -/
def Obligations.ChangeTrackerProperties : Prop :=
  (∀ s t d d', exec (.init d) s = .next t → (s.first = true ∨ s.cfg.initRearmsFirst = true) →
    ∃ u, exec (.changed d') t = .next u ∧ u.changedQ = true) ∧
  (∀ t d', Booted t → ∃ u, exec (.changed d') t = .next u ∧ u.changedQ = true) ∧
  (∀ s t d d', exec (.buildReport d) s = .next t → s.first = false →
    ∃ u, exec (.changed d') t = .next u ∧ u.changedQ = false) ∧
  (∀ s t d d' cs, s.lastReported = pack cs → exec (.update d) s = .next t → t.cs ≠ cs →
    ∃ u, exec (.changed d') t = .next u ∧ u.changedQ = true) ∧
  (∀ s t d, exec (.buildReport d) s = .next t → t.lastReported = t.lastRead)

/-- A second UPDATE whose four readings equal the first's leaves RAW, CS and LAST_READ as the first did; under
the ideal controller with row pull-ups and unchanged switches the readings are equal. A second INIT with equal
readings leaves every register as the first did. (44_commands.md R153, 44_commands.md R159, 95_test_vectors.md
S4) -/
def Obligations.ScansAreIdempotent : Prop :=
  (∀ (s t u : State) (d d' : Bool), exec (.update d) s = .next t → exec (.update d') t = .next u →
    ((∀ c, reading t c = reading s c) ∨ IdealRows s) →
    u.raw = t.raw ∧ u.cs = t.cs ∧ u.lastRead = t.lastRead) ∧
  (∀ (s t u : State) (d : Bool), exec (.init d) s = .next t → exec (.init d) t = .next u →
    (∀ c, reading t c = reading { s with rowPue := true } c) →
    u = { t with rowsIn := u.rowsIn, draws := u.draws })

/-- With no switch closed (the ideal controller, nothing grounded) INIT, and UPDATE once the row pull-ups are
on, store 0x3f in every raw byte and leave the idle report in LAST_READ, for every configuration. (R111) -/
def Obligations.AbsentControllerReadsIdle : Prop :=
  ∀ s d, s.ph = 0x0#4 → s.controller = .ideal → s.sw = Vector.replicate 4 0#6 →
    (∃ t, exec (.init d) s = .next t ∧ t.raw = Vector.replicate 4 0x3f#8 ∧
      t.lastRead = #v[0x80#8, 0x80#8, 0x00#8, 0x00#8, 0x00#8]) ∧
    (s.rowPue = true → ∃ t, exec (.update d) s = .next t ∧ t.raw = Vector.replicate 4 0x3f#8 ∧
      t.lastRead = #v[0x80#8, 0x80#8, 0x00#8, 0x00#8, 0x00#8])

/-- For every legal configuration, under the ideal controller with row pull-ups: after UPDATE the report bit of
each button is 1 exactly when its switch is closed, and each axis byte is decided by the closed direction
switches (the later-tested one winning); a BUILDREPORT with destination then delivers that very report in DEST.
(41_scanner.md R110, 42_decoder.md R129, 43_packer.md R141, 44_commands.md R153, 44_commands.md R156,
70_reset_and_hazards.md R205) -/
def Obligations.HeldSwitchesReachTheReport : Prop :=
  ∀ s d, s.cfg.wf → IdealRows s → s.ph = 0x0#4 → ∃ t u, exec (.update d) s = .next t ∧
    exec (.buildReport true) t = .next u ∧ u.dest = t.lastRead ∧ u.lastReported = t.lastRead ∧
    let held := fun f => (s.sw[(s.cfg.mapOf f).col]).getLsbD (s.cfg.mapOf f).bit
    (∀ b, (u.dest[cursorByte (s.cfg.pos b)]).getLsbD (cursorBit (s.cfg.pos b)) = held (.button b)) ∧
    u.dest[1] = axisOf (held (.dir .north)) (held (.dir .south)) (testedAfter s.cfg.dirOrder .south .north) ∧
    u.dest[0] = axisOf (held (.dir .west)) (held (.dir .east)) (!testedAfter s.cfg.dirOrder .west .east)

/-- The reset state, and every state whose registers are at their reset values and whose done output is low,
meets the invariant. That done is low right after reset is the model's choice (log 15). (10_state.md R35,
10_state.md R36) -/
def Obligations.InvariantAtReset : Prop :=
  BlockInv State.reset ∧ ∀ s : State, AtReset s → s.done = false → BlockInv s

/-- From every state of the invariant, whatever turn comes next (the block's clock edge, a reset edge, a whole
command, the driver, the platform, the controller, the reader) and for every configuration, a step that answers
a next state leads to a state of the invariant: one driven column at most, levels low, pull-ups in order,
reports legal, copies as far as IDX, interrupts masked in INIT. (10_state.md R35, 41_scanner.md R109,
20_memory.md R58) -/
def Obligations.EveryStepKeepsInvariant : Prop :=
  ∀ s t : State, BlockInv s → step s = .next t → BlockInv t

/-- In every state of the invariant: (a) at most one column is in output mode, and in IDLE none; a pad is L
exactly for the current column between its STROBE_OUT and RELEASE_IN; (b) after a completed INIT or UPDATE all
pads are PU; (c) at a SAMPLE of INIT the columns below the current one are PU and those above Z; at a SAMPLE of
UPDATE the other columns are PU, or, before the first completed INIT or UPDATE only, those above are Z; (d) no
pad is H; (e) in IDLE the pads are all Z or all PU, and all PU from the first completed INIT or UPDATE on
(PullUpsKept, whose persistence is a statement of its own). R109(c) names the Z columns for INIT's scan only;
that an UPDATE before any INIT shows them too follows from R36, R106 and R194 (log 31). (41_scanner.md R109,
41_scanner.md R106, 70_reset_and_hazards.md R194) -/
def Obligations.InvariantGivesPinSafety : Prop :=
  ∀ s : State, BlockInv s →
    (∀ c c' : Column, s.colDir[c] = true → s.colDir[c'] = true → c = c') ∧
    (∀ c, pad s c ≠ .high) ∧
    (∀ c, pad s c = .low ↔ (c = s.col ∧ (s.ph = 0x5#4 ∨ s.ph = 0x6#4 ∨ s.ph = 0x7#4))) ∧
    (s.ph = 0x0#4 → (∀ c, pad s c = .floating) ∨ (∀ c, pad s c = .pullUp)) ∧
    (s.ph = 0x0#4 → PullUpsKept s → ∀ c, pad s c = .pullUp) ∧
    (s.ph = 0x6#4 → opOf s.cmdQ = 0b00#2 →
      ∀ c, (c < s.col → pad s c = .pullUp) ∧ (s.col < c → pad s c = .floating)) ∧
    (s.ph = 0x6#4 → opOf s.cmdQ ≠ 0b00#2 → (∀ c, c ≠ s.col → pad s c = .pullUp) ∨
      (∀ c, (c < s.col → pad s c = .pullUp) ∧ (s.col < c → pad s c = .floating))) ∧
    (s.ph = 0x6#4 → opOf s.cmdQ ≠ 0b00#2 → PullUpsKept s → ∀ c, c ≠ s.col → pad s c = .pullUp) ∧
    (s.ph = 0x0#4 → s.done = true → (opOf s.cmdQ = 0b00#2 ∨ opOf s.cmdQ = 0b01#2) → ∀ c, pad s c = .pullUp)

/-- From every state of the invariant whose driver is well-formed throughout (no command presented unless
cmd_ready = 1, at any later step), a run of any length answers a next state: there is no fault to raise and
nothing is refused. When a command counts as presented is the model's reading (log 29). (60_exceptions.md R170,
44_commands.md R151, 70_reset_and_hazards.md R205) -/
def Obligations.NothingIsStuck : Prop :=
  ∀ s : State, BlockInv s → WellFormedDriver s → ∀ n, ∃ t, run n s = .next t

/-- From every state of the invariant inside a command, with the reset input low, no other agent stepping and
N_SETTLE at least 1, the block reaches IDLE with done raised within the number of clocks R152 gives the command
in CMD_Q: 4 × (5 + N_SETTLE) + 5 for INIT, 4 × (5 + N_SETTLE) + 2 for UPDATE, 1 for CHANGED, 10 or 5 for
BUILDREPORT with or without destination. The bound counts a hold of exactly N_SETTLE clocks (log 26).
(44_commands.md R152, 70_reset_and_hazards.md R204) -/
def Obligations.EveryCommandEnds : Prop :=
  (∀ s : State, BlockInv s → s.ph ≠ 0x0#4 → s.agenda = [] → s.rst = false → 1 ≤ s.cfg.nSettle →
    ∃ n t, n ≤ commandClocks s.cfg s.cmdQ ∧ run n s = .next t ∧ t.ph = 0x0#4 ∧ t.done = true) ∧
  (∀ (c : Config) (d : Bool),
    commandClocks c (BitVec.ofBool d ++ 0b00#2) = 4 * (5 + c.nSettle) + 5 ∧
    commandClocks c (BitVec.ofBool d ++ 0b01#2) = 4 * (5 + c.nSettle) + 2 ∧
    commandClocks c (BitVec.ofBool d ++ 0b10#2) = 1 ∧
    commandClocks c (BitVec.ofBool d ++ 0b11#2) = if d then 10 else 5)

/-- If an instruction answers a next state in which a register differs, the instruction is one of those R20
names as its writers, or a whole command that runs one: RAW, CS, LAST_READ, LAST_REPORTED, DEST, FIRST,
CHANGED_Q, NWRITTEN, COL_DIR, COL_LVL, COL_PUE, ROW_PUE, IE_SAVED, SETTLE_CNT, CMD_Q, COL, IDX. (10_state.md
R20, 10_state.md R37, 10_state.md R25) -/
def Obligations.RegistersHaveTheirWriters : Prop :=
  ∀ i s t, exec i s = .next t →
    let scans := fun j => ∃ d, j = Instr.init d ∨ j = Instr.update d
    (t.raw ≠ s.raw → i = .sample ∨ scans i) ∧
    (t.cs ≠ s.cs → i = .decode ∨ scans i) ∧
    (t.lastRead ≠ s.lastRead → i = .pack ∨ scans i) ∧
    (t.lastReported ≠ s.lastReported → i = .copyRep ∨ ∃ d, i = .buildReport d) ∧
    (t.dest ≠ s.dest → i = .copyDest ∨ i = .buildReport true) ∧
    (t.first ≠ s.first → (i = .chg ∨ ∃ d, i = .changed d) ∨
      (s.cfg.initRearmsFirst = true ∧ (i = .saveIe ∨ ∃ d, i = .init d))) ∧
    (t.changedQ ≠ s.changedQ → i = .chg ∨ ∃ d, i = .changed d) ∧
    (t.nwritten ≠ s.nwritten → i = .copyRep ∨ ∃ d, i = .buildReport d) ∧
    (t.colDir ≠ s.colDir → i = .cfgPins ∨ i = .strobeOut ∨ i = .releaseIn ∨ scans i) ∧
    (t.colLvl ≠ s.colLvl → i = .strobeLow ∨ scans i) ∧
    (t.colPue ≠ s.colPue → i = .cfgPins ∨ i = .releasePu ∨ scans i) ∧
    (t.rowPue ≠ s.rowPue → i = .cfgPins ∨ ∃ d, i = .init d) ∧
    (t.ieSaved ≠ s.ieSaved → i = .saveIe ∨ ∃ d, i = .init d) ∧
    (t.settleCnt ≠ s.settleCnt → i = .strobeOut ∨ i = .settle ∨ scans i) ∧
    (t.cmdQ ≠ s.cmdQ → i = .idle ∨ ∃ w, i = decodeCmd w) ∧
    (t.col ≠ s.col → i = .cfgPins ∨ i = .idle ∨ i = .releasePu ∨ scans i) ∧
    (t.idx ≠ s.idx → i = .idle ∨ i = .copyDest ∨ i = .copyRep ∨ ∃ d, i = .buildReport d)

/-- Every instruction but SAVE_IE and RESTORE_IE leaves IE as it was, whole commands included (INIT restores
what it saved); and no instruction's next state depends on IE, those two and INIT apart: with another IE value
the outcome differs in IE only. (R29) -/
def Obligations.OnlyInitTouchesInterruptEnable : Prop :=
  (∀ i s t, exec i s = .next t → i ≠ .saveIe → i ≠ .restoreIe → t.ie = s.ie) ∧
  (∀ i s v, i ≠ .saveIe → i ≠ .restoreIe → (∀ d, i ≠ .init d) →
    exec i { s with ie := v } = mapNext (fun t => { t with ie := v }) (exec i s))

/-- A turn of the driver on its port, of the reset line, of the platform's IE, of the controller or of the
reader changes only the state of that agent: the port levels, rst, IE (by the platform, and only in IDLE), the
switches and readings to come, the reader's bytes, each named with the turns that may change it. The driver's
branch not taken changes nothing. That the platform changes IE in IDLE only (log 14) and that inputs hold their
level (log 21) are the model's readings. (10_state.md R37, 00_scope.md R10, 20_memory.md R59) -/
def Obligations.OtherAgentsLeaveTheBlockAlone : Prop :=
  ∀ a s t, agentTurn a s = .next t →
    a ≠ .block → (∀ w, a ≠ .invoke w) → (∀ w, a = .invokeIfChanged w → s.changedQ = false) →
    t = { s with cmdValid := t.cmdValid, cmdWord := t.cmdWord, rst := t.rst, ie := t.ie, sw := t.sw
                 rowsIn := t.rowsIn, readerBuf := t.readerBuf } ∧
    ((t.cmdValid ≠ s.cmdValid ∨ t.cmdWord ≠ s.cmdWord) → a = .drivePort t.cmdValid t.cmdWord) ∧
    (t.rst ≠ s.rst → a = .driveReset t.rst) ∧
    (t.ie ≠ s.ie → s.ph = 0x0#4 ∧ a = .platformIe t.ie) ∧
    (t.readerBuf ≠ s.readerBuf → s.ie = true ∧ ∃ i, a = .readerRead i) ∧
    (t.sw ≠ s.sw → a = .releaseAll ∨ (∃ f, a = .press f ∨ a = .release f) ∨ ∃ p b, a = .moveSwitch p b) ∧
    (t.rowsIn ≠ s.rowsIn → ∃ v, a = .supply v)

/-- On every clock edge of the block, reset edges included, IE becomes ie_wd where ie_we = 1 and keeps its value
where ie_we = 0. (44_commands.md R150, 44_commands.md R160, 44_commands.md R161, 70_reset_and_hazards.md R190)
-/
def Obligations.IeWriteSignalsDescribeIe : Prop :=
  ∀ s t : State, blockTurn s = .next t → t.ie = if ieWe s then ieWd s else s.ie

/-- After a clock edge with the reset input low, done is 1 exactly when the edge took the sequencer from inside
a command to IDLE; so it is 0 again after the next edge. That done is a bit the model holds is log 15.
(44_commands.md R152, 44_commands.md R150) -/
def Obligations.DonePulsesAtCommandEnd : Prop :=
  (∀ s t : State, s.rst = false → blockTurn s = .next t → (t.done = true ↔ (s.ph ≠ 0x0#4 ∧ t.ph = 0x0#4))) ∧
  (∀ s t : State, s.ph = 0x0#4 → blockTurn s = .next t → t.done = false)

/-- No step changes the configuration, and no step lowers the number of the next free value. Each turn that may
use free values raises it: a SAMPLE by 1, a whole INIT or UPDATE by 4, a reset edge by 7. That parameters stand
in State (log 1) and the numbering (log 6) are the model's choices. (10_state.md R34, 00_scope.md R7,
00_scope.md R12) -/
def Obligations.ParametersNeverChange : Prop :=
  (∀ s t : State, step s = .next t → t.cfg = s.cfg ∧ s.draws ≤ t.draws) ∧
  (∀ s t : State, exec .sample s = .next t → t.draws = s.draws + 1) ∧
  (∀ (s t : State) d, (exec (.init d) s = .next t ∨ exec (.update d) s = .next t) → t.draws = s.draws + 4) ∧
  (∀ s t : State, s.rst = true → blockTurn s = .next t → t.draws = s.draws + 7)

/-- A reader's turn while IE = 1 copies one byte of LAST_REPORTED to the reader and changes nothing else; while
IE = 0, in particular in any phase of INIT after SAVE_IE in a state of the invariant, its turn passes. That a
masked turn passes rather than waits is the model's choice (log 13). (20_memory.md R59, 20_memory.md R58,
60_exceptions.md R173) -/
def Obligations.ReaderStepsOnlyWhileEnabled : Prop :=
  (∀ (s : State) (i : ByteIdx) rest, s.agenda = .readerRead i :: rest → s.ie = true →
    step s = .next { s with readerBuf := s.readerBuf.set i s.lastReported[i], agenda := rest }) ∧
  (∀ (s : State) (i : ByteIdx) rest, s.agenda = .readerRead i :: rest → s.ie = false → step s = .next { s with agenda := rest }) ∧
  (∀ s : State, BlockInv s → opOf s.cmdQ = 0b00#2 → s.ph ≠ 0x0#4 → s.ph ≠ 0x1#4 → s.ie = false)

/-- Reads of byte 0 after the first baseline copy and of bytes 1 to 4 after the second give two new bytes and
three old ones, for all byte values. Five reads in a row give LAST_REPORTED whole. So do reads of all five bytes
in any order in a run of any length, with any turns of any agent between them, as long as no turn of the run is
a COPY_REP, a whole BUILDREPORT or a reset edge: LAST_REPORTED is then as it was and the reader's bytes equal
it. (20_memory.md R59, 70_reset_and_hazards.md R198, 95_test_vectors.md T5.12) -/
def Obligations.ReportReadsTornOrWhole : Prop :=
  (∀ s : State, s.ph = 0xE#4 → s.idx = 1 → s.ie = true → s.rst = false → s.lastReported[0] = s.lastRead[0] →
    s.agenda = [.readerRead 0, .block, .readerRead 1, .readerRead 2, .readerRead 3, .readerRead 4] →
    ∃ t, run 6 s = .next t ∧ t.readerBuf =
      #v[s.lastRead[0], s.lastRead[1], s.lastReported[2], s.lastReported[3], s.lastReported[4]]) ∧
  (∀ s : State, s.ie = true →
    s.agenda = [.readerRead 0, .readerRead 1, .readerRead 2, .readerRead 3, .readerRead 4] →
    ∃ t, run 5 s = .next t ∧ t.readerBuf = s.lastReported) ∧
  (∀ n (s t : State), run n s = .next t →
    (∀ m u, m < n → run m s = .next u → writesBaseline u = false) →
    t.lastReported = s.lastReported ∧
    ((∀ i : ByteIdx, ∃ m u rest, m < n ∧ run m s = .next u ∧ u.agenda = .readerRead i :: rest ∧ u.ie = true) →
      t.readerBuf = s.lastReported))

/-- The pseudo-operation poll, run from IDLE with the reset input low: UPDATE runs, so LAST_READ is the report
packed from the state decoded from the four zero-extended readings; CHANGED runs, so CHANGED_Q = 1 exactly when
FIRST was 1 or that report differs from the baseline, and FIRST = 0; BUILDREPORT with destination runs exactly
when CHANGED_Q = 1: then DEST and LAST_REPORTED equal LAST_READ and NWRITTEN = 5, else all three are as they
were. Either way LAST_REPORTED = LAST_READ afterwards. The three calls are whole transitions (log 8).
(30_encoding.md R88, 44_commands.md R153, 44_commands.md R155, 44_commands.md R162, 70_reset_and_hazards.md
R202) -/
def Obligations.PollDeliversOnlyChanges : Prop :=
  ∀ s : State, s.ph = 0x0#4 → s.rst = false → s.agenda = Line.turns .poll →
    ∃ (t : State) (raw : Vector Byte 4), run 3 s = .next t ∧ t.agenda = [] ∧ t.ph = 0x0#4 ∧ t.first = false ∧
      (∀ c : Column, raw[c] = (reading s c).setWidth 8) ∧ t.raw = raw ∧
      t.lastRead = pack (decodeState s.cfg raw) ∧ t.lastReported = t.lastRead ∧
      (t.changedQ = true ↔ (s.first = true ∨ t.lastRead ≠ s.lastReported)) ∧
      (t.changedQ = true → t.dest = t.lastRead ∧ t.nwritten = 5#3) ∧
      (t.changedQ = false → t.dest = s.dest ∧ t.nwritten = s.nwritten ∧ t.lastReported = s.lastReported)

/-- A press of a field closes exactly the switch at MAP(f), a release opens exactly that one, a move sets
exactly the switch of its position, a release of all opens every one: no other switch and no other state
changes. A supplied reading is appended to those to come and nothing else changes; that readings to come are
queued is the model's choice (log 7). (30_encoding.md R87, 41_scanner.md R110) -/
def Obligations.ControllerTurnsActOnSwitches : Prop :=
  (∀ (s : State) (f : Field) (closed : Bool), ∃ sw : Vector RowBits 4,
    agentTurn (if closed then .press f else .release f) s = .next { s with sw := sw } ∧
    ∀ (c : Column) (r : Fin 6), (sw[c]).getLsbD r =
      if c = (s.cfg.mapOf f).col ∧ r = (s.cfg.mapOf f).bit then closed else (s.sw[c]).getLsbD r) ∧
  (∀ (s : State) (p : Position) (closed : Bool), ∃ sw : Vector RowBits 4,
    agentTurn (.moveSwitch p closed) s = .next { s with sw := sw } ∧
    ∀ (c : Column) (r : Fin 6), (sw[c]).getLsbD r =
      if c = p.col ∧ r = p.bit then closed else (s.sw[c]).getLsbD r) ∧
  (∀ s : State, ∃ sw : Vector RowBits 4, agentTurn .releaseAll s = .next { s with sw := sw } ∧
    ∀ (c : Column) (r : Fin 6), (sw[c]).getLsbD r = false) ∧
  (∀ (s : State) (rows : RowBits), agentTurn (.supply rows) s = .next { s with rowsIn := s.rowsIn ++ [rows] })

/-- A turn of the driver on the port sets cmd_valid and cmd_word; a turn on the reset line sets rst; the
platform's turn sets IE in IDLE and passes inside a command (log 14). Nothing else changes. The levels hold
until they are set again (log 21): no other step of any agent, reset edges and whole commands included, changes
cmd_valid or cmd_word unless the next turn is the driver's on the port, or rst unless it is one on the reset
line. (44_commands.md R150, 70_reset_and_hazards.md R190, 41_scanner.md R112) -/
def Obligations.InputTurnsSetTheirLevels : Prop :=
  (∀ (s : State) v w, agentTurn (.drivePort v w) s = .next { s with cmdValid := v, cmdWord := w }) ∧
  (∀ (s : State) level, agentTurn (.driveReset level) s = .next { s with rst := level }) ∧
  (∀ (s : State) v, s.ph = 0x0#4 → agentTurn (.platformIe v) s = .next { s with ie := v }) ∧
  (∀ (s : State) v, s.ph ≠ 0x0#4 → agentTurn (.platformIe v) s = .next s) ∧
  (∀ s t : State, step s = .next t →
    ((∀ v w rest, s.agenda ≠ .drivePort v w :: rest) → t.cmdValid = s.cmdValid ∧ t.cmdWord = s.cmdWord) ∧
    ((∀ level rest, s.agenda ≠ .driveReset level :: rest) → t.rst = s.rst))

/-- PullUpsKept says that every column has its pull-up on unless an INIT is running. A completed INIT or UPDATE
leaves it, as a whole command or as phases; and from every state of the invariant with it, every step of every
agent under a low reset input keeps it. So in IDLE the pads stay PU for good, and at a SAMPLE of UPDATE the
other columns are PU. (41_scanner.md R109, 10_state.md R35, 41_scanner.md R100) -/
def Obligations.PullUpsStayOnOutsideInit : Prop :=
  (∀ s t : State, BlockInv s → PullUpsKept s → s.rst = false → step s = .next t → PullUpsKept t) ∧
  (∀ (s t : State) d, (exec (.init d) s = .next t ∨ exec (.update d) s = .next t) → PullUpsKept t) ∧
  (∀ s : State, BlockInv s → s.ph = 0x0#4 → s.done = true → (opOf s.cmdQ = 0b00#2 ∨ opOf s.cmdQ = 0b01#2) →
    PullUpsKept s)

/-- In every run from a state of the invariant outside a baseline copy: (a) whenever the run stands outside a
baseline copy again, LAST_REPORTED is what it was at the start, or all zero (after a reset edge), or equal to a
value LAST_READ held at an earlier step of the run; with a guarded reader this holds whenever the reader steps,
so the byte it reads is of such a report. (b) With a guarded reader, after any number of complete fives of
reads: once the next five reads are taken, one of each byte in any order, with any turns of any agent between
them, the reader's bytes are LAST_REPORTED whole, as it stood at one moment since, outside a baseline copy; and
that value is one of those of (a). That the reads count in fives is the model's reading (log 30). (10_state.md
R35, 20_memory.md R59, 70_reset_and_hazards.md R198, 70_reset_and_hazards.md R205, 95_test_vectors.md T5.12) -/
def Obligations.BaselineIsAHeldReport : Prop :=
  (∀ (s : State) (n : Nat) (u : State), BlockInv s → ¬ MidBaselineCopy s → run n s = .next u →
    let whole := u.lastReported = s.lastReported ∨ u.lastReported = Vector.replicate 5 0x00#8 ∨
      ∃ m v, m ≤ n ∧ run m s = .next v ∧ u.lastReported = v.lastRead
    (¬ MidBaselineCopy u → whole) ∧ (GuardedReader s → readerSteps u = true → whole)) ∧
  (∀ (s u t : State) (n k : Nat), BlockInv s → ¬ MidBaselineCopy s → GuardedReader s →
    run n s = .next u → readsIn n s % 5 = 0 → run k u = .next t → readsIn k u = 5 →
    (∀ i : ByteIdx, ∃ m v rest, m < k ∧ run m u = .next v ∧ v.agenda = .readerRead i :: rest ∧ v.ie = true) →
    ∃ m v, m ≤ k ∧ run m u = .next v ∧ ¬ MidBaselineCopy v ∧ t.readerBuf = v.lastReported ∧
      (t.readerBuf = s.lastReported ∨ t.readerBuf = Vector.replicate 5 0x00#8 ∨
        ∃ j w, j ≤ n + m ∧ run j s = .next w ∧ t.readerBuf = w.lastRead))

/-- With no reader turn to come, no run of any length changes the reader's bytes, none brings a reader turn, and
the reader is guarded throughout. (20_memory.md R59, 70_reset_and_hazards.md R205) -/
def Obligations.NoReaderNeverReads : Prop :=
  (∀ (n : Nat) (s t : State), NoReader s → run n s = .next t → t.readerBuf = s.readerBuf ∧ NoReader t) ∧
  (∀ s : State, NoReader s → GuardedReader s)

/-- Under IdealController, at every moment of a run: a SAMPLE of column c stores the complement of the closure
bits of column c, zero-extended, in the raw byte of c; a whole UPDATE or INIT stores the complement of each
column's closure bits. The premise holds where the controller is ideal, no reset is asserted or to come, and the
row pull-ups are on or the state is AtReset with a call of INIT first; so it contradicts no start state of the
programs. That ROW_PUE = 1 is asked at the SAMPLEs is the model's reading (log 35). (41_scanner.md R110,
41_scanner.md R104, 70_reset_and_hazards.md R205) -/
def Obligations.IdealControllerReadsSwitches : Prop :=
  (∀ (s u : State) (n : Nat), IdealController s → run n s = .next u → u.rst = false →
    (u.ph = 0x6#4 → (u.agenda = [] ∨ ∃ rest, u.agenda = .block :: rest) →
      ∃ t, step u = .next t ∧ t.raw = u.raw.set u.col ((~~~ u.sw[u.col]).setWidth 8)) ∧
    (∀ w rest, u.ph = 0x0#4 → u.agenda = .invoke w :: rest → (opOf w = 0b00#2 ∨ opOf w = 0b01#2) →
      ∃ t, step u = .next t ∧ ∀ c : Column, t.raw[c] = (~~~ u.sw[c]).setWidth 8)) ∧
  (∀ s : State, s.controller = .ideal → s.rst = false → AgentStep.driveReset true ∉ s.agenda →
    (s.rowPue = true ∨ (AtReset s ∧ ∃ w rest, s.agenda = .invoke w :: rest ∧ opOf w = 0b00#2)) →
    IdealController s)

/-- (a) Every program of the trace syntax that has a command, pseudo-operations included, placed in a state in
IDLE with the reset input low, no command presented and no other turn to come, has an end of its run. (b) So has
a single command presented on the port and lowered after its acceptance, from a state of the invariant with
N_SETTLE at least 1. (c) At the end PH = IDLE, done = 1 and the driver has no command left; from there no turn
of any agent leaves IDLE or writes DEST. (d) A program without a command has no end, also where done is still 1
from an earlier command. That the end is the first such state, that turns that follow are no part of the run,
and (d), are the model's reading (log 36). (70_reset_and_hazards.md R205, 30_encoding.md R87, 30_encoding.md
R88, 44_commands.md R152) -/
def Obligations.ProgramRunsEnd : Prop :=
  (∀ (s : State) (p : List Line), s.ph = 0x0#4 → s.rst = false → s.cmdValid = false → s.agenda = [] →
    (∃ l ∈ p, ∃ w, AgentStep.invoke w ∈ l.turns) → ∃ t, RunEndsAt (s.withProgram p) t) ∧
  (∀ (s : State) (w : CmdWord), BlockInv s → s.ph = 0x0#4 → s.rst = false → 1 ≤ s.cfg.nSettle →
    s.agenda = [.drivePort true w, .block, .drivePort false w] → ∃ t, RunEndsAt s t) ∧
  (∀ s t : State, RunEndsAt s t → t.ph = 0x0#4 ∧ t.done = true ∧ commandsLeft t = false ∧
    ∀ n u, run n t = .next u → u.ph = 0x0#4 ∧ u.dest = t.dest) ∧
  (∀ (s t : State) (p : List Line), s.ph = 0x0#4 → s.cmdValid = false → s.agenda = [] →
    (∀ l ∈ p, ∀ w, AgentStep.invoke w ∉ l.turns) → ¬ RunEndsAt (s.withProgram p) t)
end

