-- ==== Sys2Proof/Laws/State.lean ====
section
/-! SUPPORT. One lemma per field per state update, each true by rfl: what every shared update of
Machine/Ops.lean, Scanner.lean, Decoder.lean, Packer.lean and Commands.lean leaves in each register. -/

namespace Sys2Proof
namespace Machine

/-! ### goto -/

@[simp] theorem goto_raw (p : PhaseCode) (s : State) : (goto p s).raw = s.raw := rfl
@[simp] theorem goto_lastRead (p : PhaseCode) (s : State) : (goto p s).lastRead = s.lastRead := rfl
@[simp] theorem goto_lastReported (p : PhaseCode) (s : State) : (goto p s).lastReported = s.lastReported := rfl
@[simp] theorem goto_cs (p : PhaseCode) (s : State) : (goto p s).cs = s.cs := rfl
@[simp] theorem goto_first (p : PhaseCode) (s : State) : (goto p s).first = s.first := rfl
@[simp] theorem goto_changedQ (p : PhaseCode) (s : State) : (goto p s).changedQ = s.changedQ := rfl
@[simp] theorem goto_nwritten (p : PhaseCode) (s : State) : (goto p s).nwritten = s.nwritten := rfl
@[simp] theorem goto_colDir (p : PhaseCode) (s : State) : (goto p s).colDir = s.colDir := rfl
@[simp] theorem goto_colLvl (p : PhaseCode) (s : State) : (goto p s).colLvl = s.colLvl := rfl
@[simp] theorem goto_colPue (p : PhaseCode) (s : State) : (goto p s).colPue = s.colPue := rfl
@[simp] theorem goto_rowPue (p : PhaseCode) (s : State) : (goto p s).rowPue = s.rowPue := rfl
@[simp] theorem goto_ieSaved (p : PhaseCode) (s : State) : (goto p s).ieSaved = s.ieSaved := rfl
@[simp] theorem goto_ph (p : PhaseCode) (s : State) : (goto p s).ph = p := rfl
@[simp] theorem goto_col (p : PhaseCode) (s : State) : (goto p s).col = s.col := rfl
@[simp] theorem goto_idx (p : PhaseCode) (s : State) : (goto p s).idx = s.idx := rfl
@[simp] theorem goto_cmdQ (p : PhaseCode) (s : State) : (goto p s).cmdQ = s.cmdQ := rfl
@[simp] theorem goto_settleCnt (p : PhaseCode) (s : State) : (goto p s).settleCnt = s.settleCnt := rfl
@[simp] theorem goto_ie (p : PhaseCode) (s : State) : (goto p s).ie = s.ie := rfl
@[simp] theorem goto_dest (p : PhaseCode) (s : State) : (goto p s).dest = s.dest := rfl
@[simp] theorem goto_rst (p : PhaseCode) (s : State) : (goto p s).rst = s.rst := rfl
@[simp] theorem goto_cmdValid (p : PhaseCode) (s : State) : (goto p s).cmdValid = s.cmdValid := rfl
@[simp] theorem goto_cmdWord (p : PhaseCode) (s : State) : (goto p s).cmdWord = s.cmdWord := rfl
@[simp] theorem goto_done (p : PhaseCode) (s : State) : (goto p s).done = false := rfl
@[simp] theorem goto_controller (p : PhaseCode) (s : State) : (goto p s).controller = s.controller := rfl
@[simp] theorem goto_sw (p : PhaseCode) (s : State) : (goto p s).sw = s.sw := rfl
@[simp] theorem goto_rowsIn (p : PhaseCode) (s : State) : (goto p s).rowsIn = s.rowsIn := rfl
@[simp] theorem goto_readerBuf (p : PhaseCode) (s : State) : (goto p s).readerBuf = s.readerBuf := rfl
@[simp] theorem goto_agenda (p : PhaseCode) (s : State) : (goto p s).agenda = s.agenda := rfl
@[simp] theorem goto_draws (p : PhaseCode) (s : State) : (goto p s).draws = s.draws := rfl
@[simp] theorem goto_cfg (p : PhaseCode) (s : State) : (goto p s).cfg = s.cfg := rfl

/-! ### finish -/

@[simp] theorem finish_raw (s : State) : (finish s).raw = s.raw := rfl
@[simp] theorem finish_lastRead (s : State) : (finish s).lastRead = s.lastRead := rfl
@[simp] theorem finish_lastReported (s : State) : (finish s).lastReported = s.lastReported := rfl
@[simp] theorem finish_cs (s : State) : (finish s).cs = s.cs := rfl
@[simp] theorem finish_first (s : State) : (finish s).first = s.first := rfl
@[simp] theorem finish_changedQ (s : State) : (finish s).changedQ = s.changedQ := rfl
@[simp] theorem finish_nwritten (s : State) : (finish s).nwritten = s.nwritten := rfl
@[simp] theorem finish_colDir (s : State) : (finish s).colDir = s.colDir := rfl
@[simp] theorem finish_colLvl (s : State) : (finish s).colLvl = s.colLvl := rfl
@[simp] theorem finish_colPue (s : State) : (finish s).colPue = s.colPue := rfl
@[simp] theorem finish_rowPue (s : State) : (finish s).rowPue = s.rowPue := rfl
@[simp] theorem finish_ieSaved (s : State) : (finish s).ieSaved = s.ieSaved := rfl
@[simp] theorem finish_ph (s : State) : (finish s).ph = phIdle := rfl
@[simp] theorem finish_col (s : State) : (finish s).col = s.col := rfl
@[simp] theorem finish_idx (s : State) : (finish s).idx = s.idx := rfl
@[simp] theorem finish_cmdQ (s : State) : (finish s).cmdQ = s.cmdQ := rfl
@[simp] theorem finish_settleCnt (s : State) : (finish s).settleCnt = s.settleCnt := rfl
@[simp] theorem finish_ie (s : State) : (finish s).ie = s.ie := rfl
@[simp] theorem finish_dest (s : State) : (finish s).dest = s.dest := rfl
@[simp] theorem finish_rst (s : State) : (finish s).rst = s.rst := rfl
@[simp] theorem finish_cmdValid (s : State) : (finish s).cmdValid = s.cmdValid := rfl
@[simp] theorem finish_cmdWord (s : State) : (finish s).cmdWord = s.cmdWord := rfl
@[simp] theorem finish_done (s : State) : (finish s).done = true := rfl
@[simp] theorem finish_controller (s : State) : (finish s).controller = s.controller := rfl
@[simp] theorem finish_sw (s : State) : (finish s).sw = s.sw := rfl
@[simp] theorem finish_rowsIn (s : State) : (finish s).rowsIn = s.rowsIn := rfl
@[simp] theorem finish_readerBuf (s : State) : (finish s).readerBuf = s.readerBuf := rfl
@[simp] theorem finish_agenda (s : State) : (finish s).agenda = s.agenda := rfl
@[simp] theorem finish_draws (s : State) : (finish s).draws = s.draws := rfl
@[simp] theorem finish_cfg (s : State) : (finish s).cfg = s.cfg := rfl

/-! ### latch -/

@[simp] theorem latch_raw (w : CmdWord) (s : State) : (latch w s).raw = s.raw := rfl
@[simp] theorem latch_lastRead (w : CmdWord) (s : State) : (latch w s).lastRead = s.lastRead := rfl
@[simp] theorem latch_lastReported (w : CmdWord) (s : State) : (latch w s).lastReported = s.lastReported := rfl
@[simp] theorem latch_cs (w : CmdWord) (s : State) : (latch w s).cs = s.cs := rfl
@[simp] theorem latch_first (w : CmdWord) (s : State) : (latch w s).first = s.first := rfl
@[simp] theorem latch_changedQ (w : CmdWord) (s : State) : (latch w s).changedQ = s.changedQ := rfl
@[simp] theorem latch_nwritten (w : CmdWord) (s : State) : (latch w s).nwritten = s.nwritten := rfl
@[simp] theorem latch_colDir (w : CmdWord) (s : State) : (latch w s).colDir = s.colDir := rfl
@[simp] theorem latch_colLvl (w : CmdWord) (s : State) : (latch w s).colLvl = s.colLvl := rfl
@[simp] theorem latch_colPue (w : CmdWord) (s : State) : (latch w s).colPue = s.colPue := rfl
@[simp] theorem latch_rowPue (w : CmdWord) (s : State) : (latch w s).rowPue = s.rowPue := rfl
@[simp] theorem latch_ieSaved (w : CmdWord) (s : State) : (latch w s).ieSaved = s.ieSaved := rfl
@[simp] theorem latch_ph (w : CmdWord) (s : State) : (latch w s).ph = s.ph := rfl
@[simp] theorem latch_col (w : CmdWord) (s : State) : (latch w s).col = s.col := rfl
@[simp] theorem latch_idx (w : CmdWord) (s : State) : (latch w s).idx = s.idx := rfl
@[simp] theorem latch_cmdQ (w : CmdWord) (s : State) : (latch w s).cmdQ = w := rfl
@[simp] theorem latch_settleCnt (w : CmdWord) (s : State) : (latch w s).settleCnt = s.settleCnt := rfl
@[simp] theorem latch_ie (w : CmdWord) (s : State) : (latch w s).ie = s.ie := rfl
@[simp] theorem latch_dest (w : CmdWord) (s : State) : (latch w s).dest = s.dest := rfl
@[simp] theorem latch_rst (w : CmdWord) (s : State) : (latch w s).rst = s.rst := rfl
@[simp] theorem latch_cmdValid (w : CmdWord) (s : State) : (latch w s).cmdValid = s.cmdValid := rfl
@[simp] theorem latch_cmdWord (w : CmdWord) (s : State) : (latch w s).cmdWord = s.cmdWord := rfl
@[simp] theorem latch_done (w : CmdWord) (s : State) : (latch w s).done = s.done := rfl
@[simp] theorem latch_controller (w : CmdWord) (s : State) : (latch w s).controller = s.controller := rfl
@[simp] theorem latch_sw (w : CmdWord) (s : State) : (latch w s).sw = s.sw := rfl
@[simp] theorem latch_rowsIn (w : CmdWord) (s : State) : (latch w s).rowsIn = s.rowsIn := rfl
@[simp] theorem latch_readerBuf (w : CmdWord) (s : State) : (latch w s).readerBuf = s.readerBuf := rfl
@[simp] theorem latch_agenda (w : CmdWord) (s : State) : (latch w s).agenda = s.agenda := rfl
@[simp] theorem latch_draws (w : CmdWord) (s : State) : (latch w s).draws = s.draws := rfl
@[simp] theorem latch_cfg (w : CmdWord) (s : State) : (latch w s).cfg = s.cfg := rfl

/-! ### assertLow -/

@[simp] theorem assertLow_raw (s : State) : (assertLow s).raw = s.raw := rfl
@[simp] theorem assertLow_lastRead (s : State) : (assertLow s).lastRead = s.lastRead := rfl
@[simp] theorem assertLow_lastReported (s : State) : (assertLow s).lastReported = s.lastReported := rfl
@[simp] theorem assertLow_cs (s : State) : (assertLow s).cs = s.cs := rfl
@[simp] theorem assertLow_first (s : State) : (assertLow s).first = s.first := rfl
@[simp] theorem assertLow_changedQ (s : State) : (assertLow s).changedQ = s.changedQ := rfl
@[simp] theorem assertLow_nwritten (s : State) : (assertLow s).nwritten = s.nwritten := rfl
@[simp] theorem assertLow_colDir (s : State) : (assertLow s).colDir = s.colDir := rfl
@[simp] theorem assertLow_colLvl (s : State) : (assertLow s).colLvl = s.colLvl.set s.col false := rfl
@[simp] theorem assertLow_colPue (s : State) : (assertLow s).colPue = s.colPue := rfl
@[simp] theorem assertLow_rowPue (s : State) : (assertLow s).rowPue = s.rowPue := rfl
@[simp] theorem assertLow_ieSaved (s : State) : (assertLow s).ieSaved = s.ieSaved := rfl
@[simp] theorem assertLow_ph (s : State) : (assertLow s).ph = s.ph := rfl
@[simp] theorem assertLow_col (s : State) : (assertLow s).col = s.col := rfl
@[simp] theorem assertLow_idx (s : State) : (assertLow s).idx = s.idx := rfl
@[simp] theorem assertLow_cmdQ (s : State) : (assertLow s).cmdQ = s.cmdQ := rfl
@[simp] theorem assertLow_settleCnt (s : State) : (assertLow s).settleCnt = s.settleCnt := rfl
@[simp] theorem assertLow_ie (s : State) : (assertLow s).ie = s.ie := rfl
@[simp] theorem assertLow_dest (s : State) : (assertLow s).dest = s.dest := rfl
@[simp] theorem assertLow_rst (s : State) : (assertLow s).rst = s.rst := rfl
@[simp] theorem assertLow_cmdValid (s : State) : (assertLow s).cmdValid = s.cmdValid := rfl
@[simp] theorem assertLow_cmdWord (s : State) : (assertLow s).cmdWord = s.cmdWord := rfl
@[simp] theorem assertLow_done (s : State) : (assertLow s).done = s.done := rfl
@[simp] theorem assertLow_controller (s : State) : (assertLow s).controller = s.controller := rfl
@[simp] theorem assertLow_sw (s : State) : (assertLow s).sw = s.sw := rfl
@[simp] theorem assertLow_rowsIn (s : State) : (assertLow s).rowsIn = s.rowsIn := rfl
@[simp] theorem assertLow_readerBuf (s : State) : (assertLow s).readerBuf = s.readerBuf := rfl
@[simp] theorem assertLow_agenda (s : State) : (assertLow s).agenda = s.agenda := rfl
@[simp] theorem assertLow_draws (s : State) : (assertLow s).draws = s.draws := rfl
@[simp] theorem assertLow_cfg (s : State) : (assertLow s).cfg = s.cfg := rfl

/-! ### driveColumn -/

@[simp] theorem driveColumn_raw (s : State) : (driveColumn s).raw = s.raw := rfl
@[simp] theorem driveColumn_lastRead (s : State) : (driveColumn s).lastRead = s.lastRead := rfl
@[simp] theorem driveColumn_lastReported (s : State) : (driveColumn s).lastReported = s.lastReported := rfl
@[simp] theorem driveColumn_cs (s : State) : (driveColumn s).cs = s.cs := rfl
@[simp] theorem driveColumn_first (s : State) : (driveColumn s).first = s.first := rfl
@[simp] theorem driveColumn_changedQ (s : State) : (driveColumn s).changedQ = s.changedQ := rfl
@[simp] theorem driveColumn_nwritten (s : State) : (driveColumn s).nwritten = s.nwritten := rfl
@[simp] theorem driveColumn_colDir (s : State) : (driveColumn s).colDir = s.colDir.set s.col true := rfl
@[simp] theorem driveColumn_colLvl (s : State) : (driveColumn s).colLvl = s.colLvl := rfl
@[simp] theorem driveColumn_colPue (s : State) : (driveColumn s).colPue = s.colPue := rfl
@[simp] theorem driveColumn_rowPue (s : State) : (driveColumn s).rowPue = s.rowPue := rfl
@[simp] theorem driveColumn_ieSaved (s : State) : (driveColumn s).ieSaved = s.ieSaved := rfl
@[simp] theorem driveColumn_ph (s : State) : (driveColumn s).ph = s.ph := rfl
@[simp] theorem driveColumn_col (s : State) : (driveColumn s).col = s.col := rfl
@[simp] theorem driveColumn_idx (s : State) : (driveColumn s).idx = s.idx := rfl
@[simp] theorem driveColumn_cmdQ (s : State) : (driveColumn s).cmdQ = s.cmdQ := rfl
@[simp] theorem driveColumn_settleCnt (s : State) : (driveColumn s).settleCnt = s.cfg.nSettle := rfl
@[simp] theorem driveColumn_ie (s : State) : (driveColumn s).ie = s.ie := rfl
@[simp] theorem driveColumn_dest (s : State) : (driveColumn s).dest = s.dest := rfl
@[simp] theorem driveColumn_rst (s : State) : (driveColumn s).rst = s.rst := rfl
@[simp] theorem driveColumn_cmdValid (s : State) : (driveColumn s).cmdValid = s.cmdValid := rfl
@[simp] theorem driveColumn_cmdWord (s : State) : (driveColumn s).cmdWord = s.cmdWord := rfl
@[simp] theorem driveColumn_done (s : State) : (driveColumn s).done = s.done := rfl
@[simp] theorem driveColumn_controller (s : State) : (driveColumn s).controller = s.controller := rfl
@[simp] theorem driveColumn_sw (s : State) : (driveColumn s).sw = s.sw := rfl
@[simp] theorem driveColumn_rowsIn (s : State) : (driveColumn s).rowsIn = s.rowsIn := rfl
@[simp] theorem driveColumn_readerBuf (s : State) : (driveColumn s).readerBuf = s.readerBuf := rfl
@[simp] theorem driveColumn_agenda (s : State) : (driveColumn s).agenda = s.agenda := rfl
@[simp] theorem driveColumn_draws (s : State) : (driveColumn s).draws = s.draws := rfl
@[simp] theorem driveColumn_cfg (s : State) : (driveColumn s).cfg = s.cfg := rfl

/-! ### releaseColumn -/

@[simp] theorem releaseColumn_raw (s : State) : (releaseColumn s).raw = s.raw := rfl
@[simp] theorem releaseColumn_lastRead (s : State) : (releaseColumn s).lastRead = s.lastRead := rfl
@[simp] theorem releaseColumn_lastReported (s : State) : (releaseColumn s).lastReported = s.lastReported := rfl
@[simp] theorem releaseColumn_cs (s : State) : (releaseColumn s).cs = s.cs := rfl
@[simp] theorem releaseColumn_first (s : State) : (releaseColumn s).first = s.first := rfl
@[simp] theorem releaseColumn_changedQ (s : State) : (releaseColumn s).changedQ = s.changedQ := rfl
@[simp] theorem releaseColumn_nwritten (s : State) : (releaseColumn s).nwritten = s.nwritten := rfl
@[simp] theorem releaseColumn_colDir (s : State) : (releaseColumn s).colDir = s.colDir.set s.col false := rfl
@[simp] theorem releaseColumn_colLvl (s : State) : (releaseColumn s).colLvl = s.colLvl := rfl
@[simp] theorem releaseColumn_colPue (s : State) : (releaseColumn s).colPue = s.colPue := rfl
@[simp] theorem releaseColumn_rowPue (s : State) : (releaseColumn s).rowPue = s.rowPue := rfl
@[simp] theorem releaseColumn_ieSaved (s : State) : (releaseColumn s).ieSaved = s.ieSaved := rfl
@[simp] theorem releaseColumn_ph (s : State) : (releaseColumn s).ph = s.ph := rfl
@[simp] theorem releaseColumn_col (s : State) : (releaseColumn s).col = s.col := rfl
@[simp] theorem releaseColumn_idx (s : State) : (releaseColumn s).idx = s.idx := rfl
@[simp] theorem releaseColumn_cmdQ (s : State) : (releaseColumn s).cmdQ = s.cmdQ := rfl
@[simp] theorem releaseColumn_settleCnt (s : State) : (releaseColumn s).settleCnt = s.settleCnt := rfl
@[simp] theorem releaseColumn_ie (s : State) : (releaseColumn s).ie = s.ie := rfl
@[simp] theorem releaseColumn_dest (s : State) : (releaseColumn s).dest = s.dest := rfl
@[simp] theorem releaseColumn_rst (s : State) : (releaseColumn s).rst = s.rst := rfl
@[simp] theorem releaseColumn_cmdValid (s : State) : (releaseColumn s).cmdValid = s.cmdValid := rfl
@[simp] theorem releaseColumn_cmdWord (s : State) : (releaseColumn s).cmdWord = s.cmdWord := rfl
@[simp] theorem releaseColumn_done (s : State) : (releaseColumn s).done = s.done := rfl
@[simp] theorem releaseColumn_controller (s : State) : (releaseColumn s).controller = s.controller := rfl
@[simp] theorem releaseColumn_sw (s : State) : (releaseColumn s).sw = s.sw := rfl
@[simp] theorem releaseColumn_rowsIn (s : State) : (releaseColumn s).rowsIn = s.rowsIn := rfl
@[simp] theorem releaseColumn_readerBuf (s : State) : (releaseColumn s).readerBuf = s.readerBuf := rfl
@[simp] theorem releaseColumn_agenda (s : State) : (releaseColumn s).agenda = s.agenda := rfl
@[simp] theorem releaseColumn_draws (s : State) : (releaseColumn s).draws = s.draws := rfl
@[simp] theorem releaseColumn_cfg (s : State) : (releaseColumn s).cfg = s.cfg := rfl

/-! ### pullUpColumn -/

@[simp] theorem pullUpColumn_raw (s : State) : (pullUpColumn s).raw = s.raw := rfl
@[simp] theorem pullUpColumn_lastRead (s : State) : (pullUpColumn s).lastRead = s.lastRead := rfl
@[simp] theorem pullUpColumn_lastReported (s : State) : (pullUpColumn s).lastReported = s.lastReported := rfl
@[simp] theorem pullUpColumn_cs (s : State) : (pullUpColumn s).cs = s.cs := rfl
@[simp] theorem pullUpColumn_first (s : State) : (pullUpColumn s).first = s.first := rfl
@[simp] theorem pullUpColumn_changedQ (s : State) : (pullUpColumn s).changedQ = s.changedQ := rfl
@[simp] theorem pullUpColumn_nwritten (s : State) : (pullUpColumn s).nwritten = s.nwritten := rfl
@[simp] theorem pullUpColumn_colDir (s : State) : (pullUpColumn s).colDir = s.colDir := rfl
@[simp] theorem pullUpColumn_colLvl (s : State) : (pullUpColumn s).colLvl = s.colLvl := rfl
@[simp] theorem pullUpColumn_colPue (s : State) : (pullUpColumn s).colPue = s.colPue.set s.col true := rfl
@[simp] theorem pullUpColumn_rowPue (s : State) : (pullUpColumn s).rowPue = s.rowPue := rfl
@[simp] theorem pullUpColumn_ieSaved (s : State) : (pullUpColumn s).ieSaved = s.ieSaved := rfl
@[simp] theorem pullUpColumn_ph (s : State) : (pullUpColumn s).ph = s.ph := rfl
@[simp] theorem pullUpColumn_col (s : State) : (pullUpColumn s).col = s.col := rfl
@[simp] theorem pullUpColumn_idx (s : State) : (pullUpColumn s).idx = s.idx := rfl
@[simp] theorem pullUpColumn_cmdQ (s : State) : (pullUpColumn s).cmdQ = s.cmdQ := rfl
@[simp] theorem pullUpColumn_settleCnt (s : State) : (pullUpColumn s).settleCnt = s.settleCnt := rfl
@[simp] theorem pullUpColumn_ie (s : State) : (pullUpColumn s).ie = s.ie := rfl
@[simp] theorem pullUpColumn_dest (s : State) : (pullUpColumn s).dest = s.dest := rfl
@[simp] theorem pullUpColumn_rst (s : State) : (pullUpColumn s).rst = s.rst := rfl
@[simp] theorem pullUpColumn_cmdValid (s : State) : (pullUpColumn s).cmdValid = s.cmdValid := rfl
@[simp] theorem pullUpColumn_cmdWord (s : State) : (pullUpColumn s).cmdWord = s.cmdWord := rfl
@[simp] theorem pullUpColumn_done (s : State) : (pullUpColumn s).done = s.done := rfl
@[simp] theorem pullUpColumn_controller (s : State) : (pullUpColumn s).controller = s.controller := rfl
@[simp] theorem pullUpColumn_sw (s : State) : (pullUpColumn s).sw = s.sw := rfl
@[simp] theorem pullUpColumn_rowsIn (s : State) : (pullUpColumn s).rowsIn = s.rowsIn := rfl
@[simp] theorem pullUpColumn_readerBuf (s : State) : (pullUpColumn s).readerBuf = s.readerBuf := rfl
@[simp] theorem pullUpColumn_agenda (s : State) : (pullUpColumn s).agenda = s.agenda := rfl
@[simp] theorem pullUpColumn_draws (s : State) : (pullUpColumn s).draws = s.draws := rfl
@[simp] theorem pullUpColumn_cfg (s : State) : (pullUpColumn s).cfg = s.cfg := rfl

/-! ### configurePins -/

@[simp] theorem configurePins_raw (s : State) : (configurePins s).raw = s.raw := rfl
@[simp] theorem configurePins_lastRead (s : State) : (configurePins s).lastRead = s.lastRead := rfl
@[simp] theorem configurePins_lastReported (s : State) : (configurePins s).lastReported = s.lastReported := rfl
@[simp] theorem configurePins_cs (s : State) : (configurePins s).cs = s.cs := rfl
@[simp] theorem configurePins_first (s : State) : (configurePins s).first = s.first := rfl
@[simp] theorem configurePins_changedQ (s : State) : (configurePins s).changedQ = s.changedQ := rfl
@[simp] theorem configurePins_nwritten (s : State) : (configurePins s).nwritten = s.nwritten := rfl
@[simp] theorem configurePins_colDir (s : State) : (configurePins s).colDir = Vector.replicate 4 false := rfl
@[simp] theorem configurePins_colLvl (s : State) : (configurePins s).colLvl = s.colLvl := rfl
@[simp] theorem configurePins_colPue (s : State) : (configurePins s).colPue = Vector.replicate 4 false := rfl
@[simp] theorem configurePins_rowPue (s : State) : (configurePins s).rowPue = true := rfl
@[simp] theorem configurePins_ieSaved (s : State) : (configurePins s).ieSaved = s.ieSaved := rfl
@[simp] theorem configurePins_ph (s : State) : (configurePins s).ph = s.ph := rfl
@[simp] theorem configurePins_col (s : State) : (configurePins s).col = 0 := rfl
@[simp] theorem configurePins_idx (s : State) : (configurePins s).idx = s.idx := rfl
@[simp] theorem configurePins_cmdQ (s : State) : (configurePins s).cmdQ = s.cmdQ := rfl
@[simp] theorem configurePins_settleCnt (s : State) : (configurePins s).settleCnt = s.settleCnt := rfl
@[simp] theorem configurePins_ie (s : State) : (configurePins s).ie = s.ie := rfl
@[simp] theorem configurePins_dest (s : State) : (configurePins s).dest = s.dest := rfl
@[simp] theorem configurePins_rst (s : State) : (configurePins s).rst = s.rst := rfl
@[simp] theorem configurePins_cmdValid (s : State) : (configurePins s).cmdValid = s.cmdValid := rfl
@[simp] theorem configurePins_cmdWord (s : State) : (configurePins s).cmdWord = s.cmdWord := rfl
@[simp] theorem configurePins_done (s : State) : (configurePins s).done = s.done := rfl
@[simp] theorem configurePins_controller (s : State) : (configurePins s).controller = s.controller := rfl
@[simp] theorem configurePins_sw (s : State) : (configurePins s).sw = s.sw := rfl
@[simp] theorem configurePins_rowsIn (s : State) : (configurePins s).rowsIn = s.rowsIn := rfl
@[simp] theorem configurePins_readerBuf (s : State) : (configurePins s).readerBuf = s.readerBuf := rfl
@[simp] theorem configurePins_agenda (s : State) : (configurePins s).agenda = s.agenda := rfl
@[simp] theorem configurePins_draws (s : State) : (configurePins s).draws = s.draws := rfl
@[simp] theorem configurePins_cfg (s : State) : (configurePins s).cfg = s.cfg := rfl

/-! ### sampleRows -/

@[simp] theorem sampleRows_raw (s : State) : (sampleRows s).raw = s.raw.set s.col (rawOfRows (pinRead s)) := rfl
@[simp] theorem sampleRows_lastRead (s : State) : (sampleRows s).lastRead = s.lastRead := rfl
@[simp] theorem sampleRows_lastReported (s : State) : (sampleRows s).lastReported = s.lastReported := rfl
@[simp] theorem sampleRows_cs (s : State) : (sampleRows s).cs = s.cs := rfl
@[simp] theorem sampleRows_first (s : State) : (sampleRows s).first = s.first := rfl
@[simp] theorem sampleRows_changedQ (s : State) : (sampleRows s).changedQ = s.changedQ := rfl
@[simp] theorem sampleRows_nwritten (s : State) : (sampleRows s).nwritten = s.nwritten := rfl
@[simp] theorem sampleRows_colDir (s : State) : (sampleRows s).colDir = s.colDir := rfl
@[simp] theorem sampleRows_colLvl (s : State) : (sampleRows s).colLvl = s.colLvl := rfl
@[simp] theorem sampleRows_colPue (s : State) : (sampleRows s).colPue = s.colPue := rfl
@[simp] theorem sampleRows_rowPue (s : State) : (sampleRows s).rowPue = s.rowPue := rfl
@[simp] theorem sampleRows_ieSaved (s : State) : (sampleRows s).ieSaved = s.ieSaved := rfl
@[simp] theorem sampleRows_ph (s : State) : (sampleRows s).ph = s.ph := rfl
@[simp] theorem sampleRows_col (s : State) : (sampleRows s).col = s.col := rfl
@[simp] theorem sampleRows_idx (s : State) : (sampleRows s).idx = s.idx := rfl
@[simp] theorem sampleRows_cmdQ (s : State) : (sampleRows s).cmdQ = s.cmdQ := rfl
@[simp] theorem sampleRows_settleCnt (s : State) : (sampleRows s).settleCnt = s.settleCnt := rfl
@[simp] theorem sampleRows_ie (s : State) : (sampleRows s).ie = s.ie := rfl
@[simp] theorem sampleRows_dest (s : State) : (sampleRows s).dest = s.dest := rfl
@[simp] theorem sampleRows_rst (s : State) : (sampleRows s).rst = s.rst := rfl
@[simp] theorem sampleRows_cmdValid (s : State) : (sampleRows s).cmdValid = s.cmdValid := rfl
@[simp] theorem sampleRows_cmdWord (s : State) : (sampleRows s).cmdWord = s.cmdWord := rfl
@[simp] theorem sampleRows_done (s : State) : (sampleRows s).done = s.done := rfl
@[simp] theorem sampleRows_controller (s : State) : (sampleRows s).controller = s.controller := rfl
@[simp] theorem sampleRows_sw (s : State) : (sampleRows s).sw = s.sw := rfl
@[simp] theorem sampleRows_rowsIn (s : State) : (sampleRows s).rowsIn = rowsLeft s := rfl
@[simp] theorem sampleRows_readerBuf (s : State) : (sampleRows s).readerBuf = s.readerBuf := rfl
@[simp] theorem sampleRows_agenda (s : State) : (sampleRows s).agenda = s.agenda := rfl
@[simp] theorem sampleRows_draws (s : State) : (sampleRows s).draws = s.draws + 1 := rfl
@[simp] theorem sampleRows_cfg (s : State) : (sampleRows s).cfg = s.cfg := rfl

/-! ### saveInterrupts -/

@[simp] theorem saveInterrupts_raw (s : State) : (saveInterrupts s).raw = s.raw := rfl
@[simp] theorem saveInterrupts_lastRead (s : State) : (saveInterrupts s).lastRead = s.lastRead := rfl
@[simp] theorem saveInterrupts_lastReported (s : State) : (saveInterrupts s).lastReported = s.lastReported := rfl
@[simp] theorem saveInterrupts_cs (s : State) : (saveInterrupts s).cs = s.cs := rfl
@[simp] theorem saveInterrupts_first (s : State) : (saveInterrupts s).first = firstAfterInit s.cfg s.first := rfl
@[simp] theorem saveInterrupts_changedQ (s : State) : (saveInterrupts s).changedQ = s.changedQ := rfl
@[simp] theorem saveInterrupts_nwritten (s : State) : (saveInterrupts s).nwritten = s.nwritten := rfl
@[simp] theorem saveInterrupts_colDir (s : State) : (saveInterrupts s).colDir = s.colDir := rfl
@[simp] theorem saveInterrupts_colLvl (s : State) : (saveInterrupts s).colLvl = s.colLvl := rfl
@[simp] theorem saveInterrupts_colPue (s : State) : (saveInterrupts s).colPue = s.colPue := rfl
@[simp] theorem saveInterrupts_rowPue (s : State) : (saveInterrupts s).rowPue = s.rowPue := rfl
@[simp] theorem saveInterrupts_ieSaved (s : State) : (saveInterrupts s).ieSaved = s.ie := rfl
@[simp] theorem saveInterrupts_ph (s : State) : (saveInterrupts s).ph = s.ph := rfl
@[simp] theorem saveInterrupts_col (s : State) : (saveInterrupts s).col = s.col := rfl
@[simp] theorem saveInterrupts_idx (s : State) : (saveInterrupts s).idx = s.idx := rfl
@[simp] theorem saveInterrupts_cmdQ (s : State) : (saveInterrupts s).cmdQ = s.cmdQ := rfl
@[simp] theorem saveInterrupts_settleCnt (s : State) : (saveInterrupts s).settleCnt = s.settleCnt := rfl
@[simp] theorem saveInterrupts_ie (s : State) : (saveInterrupts s).ie = false := rfl
@[simp] theorem saveInterrupts_dest (s : State) : (saveInterrupts s).dest = s.dest := rfl
@[simp] theorem saveInterrupts_rst (s : State) : (saveInterrupts s).rst = s.rst := rfl
@[simp] theorem saveInterrupts_cmdValid (s : State) : (saveInterrupts s).cmdValid = s.cmdValid := rfl
@[simp] theorem saveInterrupts_cmdWord (s : State) : (saveInterrupts s).cmdWord = s.cmdWord := rfl
@[simp] theorem saveInterrupts_done (s : State) : (saveInterrupts s).done = s.done := rfl
@[simp] theorem saveInterrupts_controller (s : State) : (saveInterrupts s).controller = s.controller := rfl
@[simp] theorem saveInterrupts_sw (s : State) : (saveInterrupts s).sw = s.sw := rfl
@[simp] theorem saveInterrupts_rowsIn (s : State) : (saveInterrupts s).rowsIn = s.rowsIn := rfl
@[simp] theorem saveInterrupts_readerBuf (s : State) : (saveInterrupts s).readerBuf = s.readerBuf := rfl
@[simp] theorem saveInterrupts_agenda (s : State) : (saveInterrupts s).agenda = s.agenda := rfl
@[simp] theorem saveInterrupts_draws (s : State) : (saveInterrupts s).draws = s.draws := rfl
@[simp] theorem saveInterrupts_cfg (s : State) : (saveInterrupts s).cfg = s.cfg := rfl

/-! ### restoreInterrupts -/

@[simp] theorem restoreInterrupts_raw (s : State) : (restoreInterrupts s).raw = s.raw := rfl
@[simp] theorem restoreInterrupts_lastRead (s : State) : (restoreInterrupts s).lastRead = s.lastRead := rfl
@[simp] theorem restoreInterrupts_lastReported (s : State) : (restoreInterrupts s).lastReported = s.lastReported := rfl
@[simp] theorem restoreInterrupts_cs (s : State) : (restoreInterrupts s).cs = s.cs := rfl
@[simp] theorem restoreInterrupts_first (s : State) : (restoreInterrupts s).first = s.first := rfl
@[simp] theorem restoreInterrupts_changedQ (s : State) : (restoreInterrupts s).changedQ = s.changedQ := rfl
@[simp] theorem restoreInterrupts_nwritten (s : State) : (restoreInterrupts s).nwritten = s.nwritten := rfl
@[simp] theorem restoreInterrupts_colDir (s : State) : (restoreInterrupts s).colDir = s.colDir := rfl
@[simp] theorem restoreInterrupts_colLvl (s : State) : (restoreInterrupts s).colLvl = s.colLvl := rfl
@[simp] theorem restoreInterrupts_colPue (s : State) : (restoreInterrupts s).colPue = s.colPue := rfl
@[simp] theorem restoreInterrupts_rowPue (s : State) : (restoreInterrupts s).rowPue = s.rowPue := rfl
@[simp] theorem restoreInterrupts_ieSaved (s : State) : (restoreInterrupts s).ieSaved = s.ieSaved := rfl
@[simp] theorem restoreInterrupts_ph (s : State) : (restoreInterrupts s).ph = s.ph := rfl
@[simp] theorem restoreInterrupts_col (s : State) : (restoreInterrupts s).col = s.col := rfl
@[simp] theorem restoreInterrupts_idx (s : State) : (restoreInterrupts s).idx = s.idx := rfl
@[simp] theorem restoreInterrupts_cmdQ (s : State) : (restoreInterrupts s).cmdQ = s.cmdQ := rfl
@[simp] theorem restoreInterrupts_settleCnt (s : State) : (restoreInterrupts s).settleCnt = s.settleCnt := rfl
@[simp] theorem restoreInterrupts_ie (s : State) : (restoreInterrupts s).ie = s.ieSaved := rfl
@[simp] theorem restoreInterrupts_dest (s : State) : (restoreInterrupts s).dest = s.dest := rfl
@[simp] theorem restoreInterrupts_rst (s : State) : (restoreInterrupts s).rst = s.rst := rfl
@[simp] theorem restoreInterrupts_cmdValid (s : State) : (restoreInterrupts s).cmdValid = s.cmdValid := rfl
@[simp] theorem restoreInterrupts_cmdWord (s : State) : (restoreInterrupts s).cmdWord = s.cmdWord := rfl
@[simp] theorem restoreInterrupts_done (s : State) : (restoreInterrupts s).done = s.done := rfl
@[simp] theorem restoreInterrupts_controller (s : State) : (restoreInterrupts s).controller = s.controller := rfl
@[simp] theorem restoreInterrupts_sw (s : State) : (restoreInterrupts s).sw = s.sw := rfl
@[simp] theorem restoreInterrupts_rowsIn (s : State) : (restoreInterrupts s).rowsIn = s.rowsIn := rfl
@[simp] theorem restoreInterrupts_readerBuf (s : State) : (restoreInterrupts s).readerBuf = s.readerBuf := rfl
@[simp] theorem restoreInterrupts_agenda (s : State) : (restoreInterrupts s).agenda = s.agenda := rfl
@[simp] theorem restoreInterrupts_draws (s : State) : (restoreInterrupts s).draws = s.draws := rfl
@[simp] theorem restoreInterrupts_cfg (s : State) : (restoreInterrupts s).cfg = s.cfg := rfl

/-! ### hold -/

@[simp] theorem hold_raw (s : State) : (hold s).raw = s.raw := rfl
@[simp] theorem hold_lastRead (s : State) : (hold s).lastRead = s.lastRead := rfl
@[simp] theorem hold_lastReported (s : State) : (hold s).lastReported = s.lastReported := rfl
@[simp] theorem hold_cs (s : State) : (hold s).cs = s.cs := rfl
@[simp] theorem hold_first (s : State) : (hold s).first = s.first := rfl
@[simp] theorem hold_changedQ (s : State) : (hold s).changedQ = s.changedQ := rfl
@[simp] theorem hold_nwritten (s : State) : (hold s).nwritten = s.nwritten := rfl
@[simp] theorem hold_colDir (s : State) : (hold s).colDir = s.colDir := rfl
@[simp] theorem hold_colLvl (s : State) : (hold s).colLvl = s.colLvl := rfl
@[simp] theorem hold_colPue (s : State) : (hold s).colPue = s.colPue := rfl
@[simp] theorem hold_rowPue (s : State) : (hold s).rowPue = s.rowPue := rfl
@[simp] theorem hold_ieSaved (s : State) : (hold s).ieSaved = s.ieSaved := rfl
@[simp] theorem hold_ph (s : State) : (hold s).ph = s.ph := rfl
@[simp] theorem hold_col (s : State) : (hold s).col = s.col := rfl
@[simp] theorem hold_idx (s : State) : (hold s).idx = s.idx := rfl
@[simp] theorem hold_cmdQ (s : State) : (hold s).cmdQ = s.cmdQ := rfl
@[simp] theorem hold_settleCnt (s : State) : (hold s).settleCnt = min s.settleCnt 1 := rfl
@[simp] theorem hold_ie (s : State) : (hold s).ie = s.ie := rfl
@[simp] theorem hold_dest (s : State) : (hold s).dest = s.dest := rfl
@[simp] theorem hold_rst (s : State) : (hold s).rst = s.rst := rfl
@[simp] theorem hold_cmdValid (s : State) : (hold s).cmdValid = s.cmdValid := rfl
@[simp] theorem hold_cmdWord (s : State) : (hold s).cmdWord = s.cmdWord := rfl
@[simp] theorem hold_done (s : State) : (hold s).done = s.done := rfl
@[simp] theorem hold_controller (s : State) : (hold s).controller = s.controller := rfl
@[simp] theorem hold_sw (s : State) : (hold s).sw = s.sw := rfl
@[simp] theorem hold_rowsIn (s : State) : (hold s).rowsIn = s.rowsIn := rfl
@[simp] theorem hold_readerBuf (s : State) : (hold s).readerBuf = s.readerBuf := rfl
@[simp] theorem hold_agenda (s : State) : (hold s).agenda = s.agenda := rfl
@[simp] theorem hold_draws (s : State) : (hold s).draws = s.draws := rfl
@[simp] theorem hold_cfg (s : State) : (hold s).cfg = s.cfg := rfl

/-! ### decodeRaw -/

@[simp] theorem decodeRaw_raw (s : State) : (decodeRaw s).raw = s.raw := rfl
@[simp] theorem decodeRaw_lastRead (s : State) : (decodeRaw s).lastRead = s.lastRead := rfl
@[simp] theorem decodeRaw_lastReported (s : State) : (decodeRaw s).lastReported = s.lastReported := rfl
@[simp] theorem decodeRaw_cs (s : State) : (decodeRaw s).cs = decodeState s.cfg s.raw := rfl
@[simp] theorem decodeRaw_first (s : State) : (decodeRaw s).first = s.first := rfl
@[simp] theorem decodeRaw_changedQ (s : State) : (decodeRaw s).changedQ = s.changedQ := rfl
@[simp] theorem decodeRaw_nwritten (s : State) : (decodeRaw s).nwritten = s.nwritten := rfl
@[simp] theorem decodeRaw_colDir (s : State) : (decodeRaw s).colDir = s.colDir := rfl
@[simp] theorem decodeRaw_colLvl (s : State) : (decodeRaw s).colLvl = s.colLvl := rfl
@[simp] theorem decodeRaw_colPue (s : State) : (decodeRaw s).colPue = s.colPue := rfl
@[simp] theorem decodeRaw_rowPue (s : State) : (decodeRaw s).rowPue = s.rowPue := rfl
@[simp] theorem decodeRaw_ieSaved (s : State) : (decodeRaw s).ieSaved = s.ieSaved := rfl
@[simp] theorem decodeRaw_ph (s : State) : (decodeRaw s).ph = s.ph := rfl
@[simp] theorem decodeRaw_col (s : State) : (decodeRaw s).col = s.col := rfl
@[simp] theorem decodeRaw_idx (s : State) : (decodeRaw s).idx = s.idx := rfl
@[simp] theorem decodeRaw_cmdQ (s : State) : (decodeRaw s).cmdQ = s.cmdQ := rfl
@[simp] theorem decodeRaw_settleCnt (s : State) : (decodeRaw s).settleCnt = s.settleCnt := rfl
@[simp] theorem decodeRaw_ie (s : State) : (decodeRaw s).ie = s.ie := rfl
@[simp] theorem decodeRaw_dest (s : State) : (decodeRaw s).dest = s.dest := rfl
@[simp] theorem decodeRaw_rst (s : State) : (decodeRaw s).rst = s.rst := rfl
@[simp] theorem decodeRaw_cmdValid (s : State) : (decodeRaw s).cmdValid = s.cmdValid := rfl
@[simp] theorem decodeRaw_cmdWord (s : State) : (decodeRaw s).cmdWord = s.cmdWord := rfl
@[simp] theorem decodeRaw_done (s : State) : (decodeRaw s).done = s.done := rfl
@[simp] theorem decodeRaw_controller (s : State) : (decodeRaw s).controller = s.controller := rfl
@[simp] theorem decodeRaw_sw (s : State) : (decodeRaw s).sw = s.sw := rfl
@[simp] theorem decodeRaw_rowsIn (s : State) : (decodeRaw s).rowsIn = s.rowsIn := rfl
@[simp] theorem decodeRaw_readerBuf (s : State) : (decodeRaw s).readerBuf = s.readerBuf := rfl
@[simp] theorem decodeRaw_agenda (s : State) : (decodeRaw s).agenda = s.agenda := rfl
@[simp] theorem decodeRaw_draws (s : State) : (decodeRaw s).draws = s.draws := rfl
@[simp] theorem decodeRaw_cfg (s : State) : (decodeRaw s).cfg = s.cfg := rfl

/-! ### packReport -/

@[simp] theorem packReport_raw (s : State) : (packReport s).raw = s.raw := rfl
@[simp] theorem packReport_lastRead (s : State) : (packReport s).lastRead = pack s.cs := rfl
@[simp] theorem packReport_lastReported (s : State) : (packReport s).lastReported = s.lastReported := rfl
@[simp] theorem packReport_cs (s : State) : (packReport s).cs = s.cs := rfl
@[simp] theorem packReport_first (s : State) : (packReport s).first = s.first := rfl
@[simp] theorem packReport_changedQ (s : State) : (packReport s).changedQ = s.changedQ := rfl
@[simp] theorem packReport_nwritten (s : State) : (packReport s).nwritten = s.nwritten := rfl
@[simp] theorem packReport_colDir (s : State) : (packReport s).colDir = s.colDir := rfl
@[simp] theorem packReport_colLvl (s : State) : (packReport s).colLvl = s.colLvl := rfl
@[simp] theorem packReport_colPue (s : State) : (packReport s).colPue = s.colPue := rfl
@[simp] theorem packReport_rowPue (s : State) : (packReport s).rowPue = s.rowPue := rfl
@[simp] theorem packReport_ieSaved (s : State) : (packReport s).ieSaved = s.ieSaved := rfl
@[simp] theorem packReport_ph (s : State) : (packReport s).ph = s.ph := rfl
@[simp] theorem packReport_col (s : State) : (packReport s).col = s.col := rfl
@[simp] theorem packReport_idx (s : State) : (packReport s).idx = s.idx := rfl
@[simp] theorem packReport_cmdQ (s : State) : (packReport s).cmdQ = s.cmdQ := rfl
@[simp] theorem packReport_settleCnt (s : State) : (packReport s).settleCnt = s.settleCnt := rfl
@[simp] theorem packReport_ie (s : State) : (packReport s).ie = s.ie := rfl
@[simp] theorem packReport_dest (s : State) : (packReport s).dest = s.dest := rfl
@[simp] theorem packReport_rst (s : State) : (packReport s).rst = s.rst := rfl
@[simp] theorem packReport_cmdValid (s : State) : (packReport s).cmdValid = s.cmdValid := rfl
@[simp] theorem packReport_cmdWord (s : State) : (packReport s).cmdWord = s.cmdWord := rfl
@[simp] theorem packReport_done (s : State) : (packReport s).done = s.done := rfl
@[simp] theorem packReport_controller (s : State) : (packReport s).controller = s.controller := rfl
@[simp] theorem packReport_sw (s : State) : (packReport s).sw = s.sw := rfl
@[simp] theorem packReport_rowsIn (s : State) : (packReport s).rowsIn = s.rowsIn := rfl
@[simp] theorem packReport_readerBuf (s : State) : (packReport s).readerBuf = s.readerBuf := rfl
@[simp] theorem packReport_agenda (s : State) : (packReport s).agenda = s.agenda := rfl
@[simp] theorem packReport_draws (s : State) : (packReport s).draws = s.draws := rfl
@[simp] theorem packReport_cfg (s : State) : (packReport s).cfg = s.cfg := rfl

/-! ### answerChanged -/

@[simp] theorem answerChanged_raw (s : State) : (answerChanged s).raw = s.raw := rfl
@[simp] theorem answerChanged_lastRead (s : State) : (answerChanged s).lastRead = s.lastRead := rfl
@[simp] theorem answerChanged_lastReported (s : State) : (answerChanged s).lastReported = s.lastReported := rfl
@[simp] theorem answerChanged_cs (s : State) : (answerChanged s).cs = s.cs := rfl
@[simp] theorem answerChanged_first (s : State) : (answerChanged s).first = false := rfl
@[simp] theorem answerChanged_changedQ (s : State) : (answerChanged s).changedQ = changedAnswer s.first s.lastRead s.lastReported := rfl
@[simp] theorem answerChanged_nwritten (s : State) : (answerChanged s).nwritten = s.nwritten := rfl
@[simp] theorem answerChanged_colDir (s : State) : (answerChanged s).colDir = s.colDir := rfl
@[simp] theorem answerChanged_colLvl (s : State) : (answerChanged s).colLvl = s.colLvl := rfl
@[simp] theorem answerChanged_colPue (s : State) : (answerChanged s).colPue = s.colPue := rfl
@[simp] theorem answerChanged_rowPue (s : State) : (answerChanged s).rowPue = s.rowPue := rfl
@[simp] theorem answerChanged_ieSaved (s : State) : (answerChanged s).ieSaved = s.ieSaved := rfl
@[simp] theorem answerChanged_ph (s : State) : (answerChanged s).ph = s.ph := rfl
@[simp] theorem answerChanged_col (s : State) : (answerChanged s).col = s.col := rfl
@[simp] theorem answerChanged_idx (s : State) : (answerChanged s).idx = s.idx := rfl
@[simp] theorem answerChanged_cmdQ (s : State) : (answerChanged s).cmdQ = s.cmdQ := rfl
@[simp] theorem answerChanged_settleCnt (s : State) : (answerChanged s).settleCnt = s.settleCnt := rfl
@[simp] theorem answerChanged_ie (s : State) : (answerChanged s).ie = s.ie := rfl
@[simp] theorem answerChanged_dest (s : State) : (answerChanged s).dest = s.dest := rfl
@[simp] theorem answerChanged_rst (s : State) : (answerChanged s).rst = s.rst := rfl
@[simp] theorem answerChanged_cmdValid (s : State) : (answerChanged s).cmdValid = s.cmdValid := rfl
@[simp] theorem answerChanged_cmdWord (s : State) : (answerChanged s).cmdWord = s.cmdWord := rfl
@[simp] theorem answerChanged_done (s : State) : (answerChanged s).done = s.done := rfl
@[simp] theorem answerChanged_controller (s : State) : (answerChanged s).controller = s.controller := rfl
@[simp] theorem answerChanged_sw (s : State) : (answerChanged s).sw = s.sw := rfl
@[simp] theorem answerChanged_rowsIn (s : State) : (answerChanged s).rowsIn = s.rowsIn := rfl
@[simp] theorem answerChanged_readerBuf (s : State) : (answerChanged s).readerBuf = s.readerBuf := rfl
@[simp] theorem answerChanged_agenda (s : State) : (answerChanged s).agenda = s.agenda := rfl
@[simp] theorem answerChanged_draws (s : State) : (answerChanged s).draws = s.draws := rfl
@[simp] theorem answerChanged_cfg (s : State) : (answerChanged s).cfg = s.cfg := rfl

/-! ### countWritten -/

@[simp] theorem countWritten_raw (d : Bool) (s : State) : (countWritten d s).raw = s.raw := rfl
@[simp] theorem countWritten_lastRead (d : Bool) (s : State) : (countWritten d s).lastRead = s.lastRead := rfl
@[simp] theorem countWritten_lastReported (d : Bool) (s : State) : (countWritten d s).lastReported = s.lastReported := rfl
@[simp] theorem countWritten_cs (d : Bool) (s : State) : (countWritten d s).cs = s.cs := rfl
@[simp] theorem countWritten_first (d : Bool) (s : State) : (countWritten d s).first = s.first := rfl
@[simp] theorem countWritten_changedQ (d : Bool) (s : State) : (countWritten d s).changedQ = s.changedQ := rfl
@[simp] theorem countWritten_nwritten (d : Bool) (s : State) : (countWritten d s).nwritten = writtenCount s.cfg d := rfl
@[simp] theorem countWritten_colDir (d : Bool) (s : State) : (countWritten d s).colDir = s.colDir := rfl
@[simp] theorem countWritten_colLvl (d : Bool) (s : State) : (countWritten d s).colLvl = s.colLvl := rfl
@[simp] theorem countWritten_colPue (d : Bool) (s : State) : (countWritten d s).colPue = s.colPue := rfl
@[simp] theorem countWritten_rowPue (d : Bool) (s : State) : (countWritten d s).rowPue = s.rowPue := rfl
@[simp] theorem countWritten_ieSaved (d : Bool) (s : State) : (countWritten d s).ieSaved = s.ieSaved := rfl
@[simp] theorem countWritten_ph (d : Bool) (s : State) : (countWritten d s).ph = s.ph := rfl
@[simp] theorem countWritten_col (d : Bool) (s : State) : (countWritten d s).col = s.col := rfl
@[simp] theorem countWritten_idx (d : Bool) (s : State) : (countWritten d s).idx = s.idx := rfl
@[simp] theorem countWritten_cmdQ (d : Bool) (s : State) : (countWritten d s).cmdQ = s.cmdQ := rfl
@[simp] theorem countWritten_settleCnt (d : Bool) (s : State) : (countWritten d s).settleCnt = s.settleCnt := rfl
@[simp] theorem countWritten_ie (d : Bool) (s : State) : (countWritten d s).ie = s.ie := rfl
@[simp] theorem countWritten_dest (d : Bool) (s : State) : (countWritten d s).dest = s.dest := rfl
@[simp] theorem countWritten_rst (d : Bool) (s : State) : (countWritten d s).rst = s.rst := rfl
@[simp] theorem countWritten_cmdValid (d : Bool) (s : State) : (countWritten d s).cmdValid = s.cmdValid := rfl
@[simp] theorem countWritten_cmdWord (d : Bool) (s : State) : (countWritten d s).cmdWord = s.cmdWord := rfl
@[simp] theorem countWritten_done (d : Bool) (s : State) : (countWritten d s).done = s.done := rfl
@[simp] theorem countWritten_controller (d : Bool) (s : State) : (countWritten d s).controller = s.controller := rfl
@[simp] theorem countWritten_sw (d : Bool) (s : State) : (countWritten d s).sw = s.sw := rfl
@[simp] theorem countWritten_rowsIn (d : Bool) (s : State) : (countWritten d s).rowsIn = s.rowsIn := rfl
@[simp] theorem countWritten_readerBuf (d : Bool) (s : State) : (countWritten d s).readerBuf = s.readerBuf := rfl
@[simp] theorem countWritten_agenda (d : Bool) (s : State) : (countWritten d s).agenda = s.agenda := rfl
@[simp] theorem countWritten_draws (d : Bool) (s : State) : (countWritten d s).draws = s.draws := rfl
@[simp] theorem countWritten_cfg (d : Bool) (s : State) : (countWritten d s).cfg = s.cfg := rfl

end Machine
end Sys2Proof
end

