-- ==== Sys2Proof/Laws/Decoder.lean ====
section
/-! SUPPORT. The parts of DECODE: which part of `CS` each test can change (42_decoder.md R122, R124). -/

namespace Sys2Proof
namespace Machine

variable (cfg : Config) (raw : Vector Byte 4)

/-- A button test leaves both axes. -/
@[simp] theorem testButton_x (cs : ControllerState) (b : Button) : (testButton cfg raw cs b).x = cs.x := by
  unfold testButton; split <;> rfl

@[simp] theorem testButton_y (cs : ControllerState) (b : Button) : (testButton cfg raw cs b).y = cs.y := by
  unfold testButton; split <;> rfl

/-- A direction test leaves the buttons. -/
@[simp] theorem testDir_btn (cs : ControllerState) (d : Dir) : (testDir cfg raw cs d).btn = cs.btn := by
  unfold testDir; split <;> cases d <;> rfl

@[simp] theorem foldl_testButton_x (bs : List Button) (cs : ControllerState) :
    (bs.foldl (testButton cfg raw) cs).x = cs.x := by
  induction bs generalizing cs with
  | nil => rfl
  | cons b bs ih => simp [ih]

@[simp] theorem foldl_testButton_y (bs : List Button) (cs : ControllerState) :
    (bs.foldl (testButton cfg raw) cs).y = cs.y := by
  induction bs generalizing cs with
  | nil => rfl
  | cons b bs ih => simp [ih]

@[simp] theorem foldl_testDir_btn (ds : List Dir) (cs : ControllerState) :
    (ds.foldl (testDir cfg raw) cs).btn = cs.btn := by
  induction ds generalizing cs with
  | nil => rfl
  | cons d ds ih => simp [ih]

/-- After button tests a place is set exactly when it was, or a pressed button of the list has it. -/
theorem foldl_testButton_btn (bs : List Button) (cs : ControllerState) (k : Fin 17) :
    (bs.foldl (testButton cfg raw) cs).btn[k] = true ↔
      cs.btn[k] = true ∨ ∃ b ∈ bs, cfg.pos b = k ∧ pressed cfg raw (.button b) = true := by
  induction bs generalizing cs with
  | nil => simp
  | cons b bs ih =>
    rw [List.foldl_cons, ih]
    by_cases hp : pressed cfg raw (.button b) = true
    · by_cases hk : cfg.pos b = k
      · subst hk; simp [testButton, hp]
      · have hne : (cfg.pos b).val ≠ k.val := fun h => hk (Fin.ext h)
        simp [testButton, hp, hne, hk]
    · simp [testButton, hp]

end Machine
end Sys2Proof
end

