-- ==== Sys2Proof/Laws/Ops.lean ====
section
/-! SUPPORT. One lemma per shared operation that says everything it can do; proofs cite these instead of
unfolding the operation. -/

namespace Sys2Proof
namespace Machine

/-! ## Operands and flags -/

/-- The three row sources assemble to the zero-extended reading (R72, R104). -/
@[simp] theorem rawOfRows_eq (rows : RowBits) : rawOfRows rows = rows.setWidth 8 := by
  revert rows; decide

/-- Each line of the ideal controller (R110). -/
theorem idealRows_bit (sw : RowBits) (pue : Bool) (fl : RowBits) (r : Fin 6) :
    (idealRows sw pue fl).getLsbD r = (!sw.getLsbD r && (pue || fl.getLsbD r)) := by
  have h : (0b111111#6).getLsbD r = true := by revert r; decide
  cases pue
  · simp [idealRows]
  · simp only [idealRows, ↓reduceIte, BitVec.getLsbD_and, BitVec.getLsbD_not, h]; simp

/-- The comparison of CHANGED is inequality of the two reports (R155). -/
theorem reportsDiffer_iff (a b : Report) : reportsDiffer a b = true ↔ a ≠ b := by
  rw [Ne, Vector.ext_iff]
  constructor
  · intro h hab
    simp [reportsDiffer, copyOrder, hab] at h
  · intro h
    by_contra hn
    apply h
    intro i hi
    simp [reportsDiffer, copyOrder] at hn
    have : i = 0 ∨ i = 1 ∨ i = 2 ∨ i = 3 ∨ i = 4 := by omega
    rcases this with rfl | rfl | rfl | rfl | rfl <;> simp_all

theorem reportsDiffer_self (a : Report) : reportsDiffer a a = false := by
  rw [← Bool.not_eq_true, reportsDiffer_iff]; simp

/-- The operation and `D` fields of a command word written by the encoder (R80). -/
@[simp] theorem opOf_cmdWordOf (op : BitVec 2) (d : Bool) : opOf (cmdWordOf op d) = op := by
  revert op d; decide

@[simp] theorem destSupplied_cmdWordOf (op : BitVec 2) (d : Bool) : destSupplied (cmdWordOf op d) = d := by
  revert op d; decide

/-! ## Acceptance (R150) -/

/-- `accept` by the operation field: what each of the four words starts. -/
theorem accept_init {w : CmdWord} (h : opOf w = 0b00#2) (s : State) : accept w s = goto phSaveIe (latch w s) := by
  have hb : ∀ w : CmdWord, opOf w = 0b00#2 → w.getLsbD 1 = false ∧ w.getLsbD 0 = false := by decide
  obtain ⟨h1, h0⟩ := hb w h
  unfold accept; rw [h1, h0]

theorem accept_update {w : CmdWord} (h : opOf w = 0b01#2) (s : State) :
    accept w s = goto phStrobeLow { latch w s with col := 0 } := by
  have hb : ∀ w : CmdWord, opOf w = 0b01#2 → w.getLsbD 1 = false ∧ w.getLsbD 0 = true := by decide
  obtain ⟨h1, h0⟩ := hb w h
  unfold accept; rw [h1, h0]

theorem accept_changed {w : CmdWord} (h : opOf w = 0b10#2) (s : State) : accept w s = goto phChg (latch w s) := by
  have hb : ∀ w : CmdWord, opOf w = 0b10#2 → w.getLsbD 1 = true ∧ w.getLsbD 0 = false := by decide
  obtain ⟨h1, h0⟩ := hb w h
  unfold accept; rw [h1, h0]

theorem accept_buildReport {w : CmdWord} (h : opOf w = 0b11#2) (s : State) :
    accept w s = goto (if destSupplied w then phCopyDest else phCopyRep) { latch w s with idx := 0 } := by
  have hb : ∀ w : CmdWord, opOf w = 0b11#2 → w.getLsbD 1 = true ∧ w.getLsbD 0 = true := by decide
  obtain ⟨h1, h0⟩ := hb w h
  unfold accept; rw [h1, h0]

/-! ## Elements of a written register -/

/-- A column bit after one of them is written. -/
theorem colBit_set (v : Vector Bool 4) (i c : Column) (b : Bool) : (v.set i b)[c] = if c = i then b else v[c] := by
  simp only [Fin.getElem_fin, Vector.getElem_set, Fin.ext_iff, eq_comm]

/-- A report byte after one of them is written. -/
theorem byte_set (v : Report) (i j : ByteIdx) (b : Byte) : (v.set i b)[j] = if j = i then b else v[j] := by
  simp only [Fin.getElem_fin, Vector.getElem_set, Fin.ext_iff, eq_comm]

/-! ## Report buffers -/

theorem memRead_memWrite (s : State) (b b' : Buf) (i j : ByteIdx) (v : Byte) :
    memRead (memWrite s b i v) b' j = if b' = b ∧ j = i then v else memRead s b' j := by
  cases b <;> cases b' <;> simp [memRead, memWrite, Vector.getElem_set, Fin.ext_iff, eq_comm]

theorem copyByte_dest (i : ByteIdx) (s : State) :
    copyByte .dest i s = { s with dest := s.dest.set i s.lastRead[i] } := rfl

theorem copyByte_lastReported (i : ByteIdx) (s : State) :
    copyByte .lastReported i s = { s with lastReported := s.lastReported.set i s.lastRead[i] } := rfl

/-- Copying all five bytes of a report copies the report. -/
theorem set_all (a b : Report) :
    ((((a.set 0 b[0]).set 1 b[1]).set 2 b[2]).set 3 b[3]).set 4 b[4] = b := by
  apply Vector.ext
  intro i hi
  have : i = 0 ∨ i = 1 ∨ i = 2 ∨ i = 3 ∨ i = 4 := by omega
  rcases this with rfl | rfl | rfl | rfl | rfl <;> simp

/-- The whole copy to the destination (R156). -/
theorem copyAll_dest (s : State) : copyAll .dest s = { s with dest := s.lastRead } := by
  have h := set_all s.dest s.lastRead
  simp only [copyAll, copyOrder, List.foldl_cons, List.foldl_nil, copyByte_dest]
  congr 1

/-- The whole baseline copy (R156). -/
theorem copyAll_lastReported (s : State) : copyAll .lastReported s = { s with lastReported := s.lastRead } := by
  have h := set_all s.lastReported s.lastRead
  simp only [copyAll, copyOrder, List.foldl_cons, List.foldl_nil, copyByte_lastReported]
  congr 1

/-- What the copies of BUILDREPORT leave (R156). -/
theorem buildCopies_eq (d : Bool) (s : State) :
    buildCopies d s = { s with
      dest := if d then s.lastRead else s.dest, lastReported := s.lastRead, idx := 4 } := by
  cases d <;> simp [buildCopies, copyAll_dest, copyAll_lastReported]

/-! ## Pins of the platform -/

/-- No pin is the block's while the platform has named none. -/
theorem padAtPin_unnamed {s : State} (p : PinIdentity) (h : s.cfg.pins = none) : padAtPin s p = none := by
  simp [padAtPin, h]

/-- A pin that carries one column shows that column's pad. -/
theorem padAtPin_col {s : State} {m : PinMap} (h : s.cfg.pins = some m) (c : Column)
    (one : ∀ c' : Column, m.col[c'] = m.col[c] → c' = c) : padAtPin s m.col[c] = some (pad s c) := by
  have hf : scanOrder.find? (fun c' => m.col[c'] == m.col[c]) = some c := by
    have hp : (fun c' : Column => m.col[c'] == m.col[c]) = fun c' => c' == c := by
      funext c'
      by_cases e : c' = c
      · subst e; simp
      · rw [beq_eq_false_iff_ne.mpr e, beq_eq_false_iff_ne.mpr fun q => e (one c' q)]
    rw [hp]
    exact (by decide : ∀ c : Column, scanOrder.find? (fun c' => c' == c) = some c) c
  simp only [padAtPin, h, hf]

/-- A pin that carries a row and no column is an input, with its pull-up by `ROW_PUE`. -/
theorem padAtPin_row {s : State} {m : PinMap} (h : s.cfg.pins = some m) (r : Fin 6)
    (apart : ∀ c : Column, m.col[c] ≠ m.row[r]) :
    padAtPin s m.row[r] = some (if s.rowPue then .pullUp else .floating) := by
  have hf : scanOrder.find? (fun c => m.col[c] == m.row[r]) = none := by
    simpa [List.find?_eq_none] using fun c _ => apart c
  have hr : m.row.toList.contains m.row[r] = true := by simp
  simp only [padAtPin, h, hf, hr, if_true]

/-! ## The row read and the scan -/

/-- A row read with a reading supplied (R110). -/
theorem pinRead_supplied {s : State} {v : RowBits} {rest : List RowBits} (hk : s.controller = .supplied)
    (hr : s.rowsIn = v :: rest) : pinRead s = v := by
  simp [pinRead, hk, hr]

/-- A line of a row read of the ideal controller (R110). -/
theorem pinRead_ideal_bit {s : State} (hk : s.controller = .ideal) (r : Fin 6) :
    (pinRead s).getLsbD r =
      (!(s.sw[s.col]).getLsbD r && (s.rowPue || (Config.draw 6 s.draws).getLsbD r)) := by
  rw [← idealRows_bit]; simp only [pinRead, hk]

/-- What the row read depends on. -/
theorem pinRead_congr {s t : State} (h1 : s.controller = t.controller) (h2 : s.rowsIn = t.rowsIn)
    (h3 : s.sw[s.col] = t.sw[t.col]) (h4 : s.rowPue = t.rowPue) (h5 : s.draws = t.draws) :
    pinRead s = pinRead t := by
  simp [pinRead, h1, h2, h3, h4, h5]

/-- One column of a scan (R107). -/
theorem scanColumn_eq (s : State) (c : Column) : scanColumn s c = { s with
      raw := s.raw.set c (rawOfRows (pinRead { s with col := c }))
      colLvl := s.colLvl.set c false
      colDir := (s.colDir.set c true).set c false
      colPue := s.colPue.set c true
      col := c
      settleCnt := min s.cfg.nSettle 1
      rowsIn := rowsLeft s
      draws := s.draws + 1 } := rfl

/-- The whole scan (R107): four readings in, every column idle, `COL` at 3. -/
theorem scan_eq (s : State) : scan s = { s with
      raw := #v[(reading s 0).setWidth 8, (reading s 1).setWidth 8, (reading s 2).setWidth 8,
        (reading s 3).setWidth 8]
      colLvl := Vector.replicate 4 false
      colDir := Vector.replicate 4 false
      colPue := Vector.replicate 4 true
      col := 3
      settleCnt := min s.cfg.nSettle 1
      rowsIn := rowsLeftAfter 4 s
      draws := s.draws + 4 } := by
  have hraw : ∀ v : Vector Byte 4, ∀ a b c d : Byte,
      (((v.set 0 a).set 1 b).set 2 c).set 3 d = #v[a, b, c, d] := by
    intro v a b c d
    apply Vector.ext
    intro i hi
    have : i = 0 ∨ i = 1 ∨ i = 2 ∨ i = 3 := by omega
    rcases this with rfl | rfl | rfl | rfl <;> simp
  have hbit : ∀ v : Vector Bool 4, ∀ b : Bool,
      (((v.set 0 b).set 1 b).set 2 b).set 3 b = Vector.replicate 4 b := by
    intro v b
    apply Vector.ext
    intro i hi
    have : i = 0 ∨ i = 1 ∨ i = 2 ∨ i = 3 := by omega
    rcases this with rfl | rfl | rfl | rfl <;> simp
  have hdir : ∀ v : Vector Bool 4,
      ((((((((v.set 0 true).set 0 false).set 1 true).set 1 false).set 2 true).set 2 false).set 3 true).set 3
        false) = Vector.replicate 4 false := by
    intro v
    apply Vector.ext
    intro i hi
    have : i = 0 ∨ i = 1 ∨ i = 2 ∨ i = 3 := by omega
    rcases this with rfl | rfl | rfl | rfl <;> simp
  have hs : scan s = scanColumn (scanColumn (scanColumn (scanColumn s 0) 1) 2) 3 := rfl
  rw [hs]
  simp only [scanColumn_eq, rawOfRows_eq]
  refine State.ext ?raw rfl rfl rfl rfl rfl rfl ?dir ?lvl ?pue rfl rfl rfl rfl rfl rfl rfl rfl rfl rfl rfl rfl rfl
    rfl rfl ?rows rfl rfl rfl rfl
  case raw =>
    refine (hraw _ _ _ _ _).trans ?_
    cases hk : s.controller <;> rcases hr : s.rowsIn with _ | ⟨v0, _ | ⟨v1, _ | ⟨v2, _ | ⟨v3, rest⟩⟩⟩⟩ <;>
      simp [reading, pinRead, rowsLeft, hk, hr, Nat.add_assoc]
  case dir => exact hdir _
  case lvl => exact hbit _ _
  case pue => exact hbit _ _
  case rows =>
    cases hk : s.controller <;> rcases hr : s.rowsIn with _ | ⟨v0, _ | ⟨v1, _ | ⟨v2, _ | ⟨v3, rest⟩⟩⟩⟩ <;>
      simp [rowsLeft, rowsLeftAfter, hk, hr]

end Machine
end Sys2Proof
end

