-- ==== Sys2Proof/Laws/Packer.lean ====
section
/-! SUPPORT. The bits of a packed byte (43_packer.md R141, R142). -/

namespace Sys2Proof
namespace Machine

/-- A shifted button bit shows at its own place and nowhere else: no bit is shifted out (R142). -/
theorem bitAt_getLsbD (b : Bool) (k : Fin 8) (j : Fin 8) :
    (bitAt b k).getLsbD j = (b && decide (j = k)) := by
  revert b k j; decide

/-- Bit `j` of a packed byte is button `base + j` (R141). -/
theorem packByte_getLsbD (btn : Vector Bool 17) (base : Fin 10) (j : Fin 8) :
    (packByte btn base).getLsbD j = btn[base.val + j.val] := by
  have h := fun (b : Bool) (k : Fin 8) => bitAt_getLsbD b k j
  have e := fun b => h b 0
  have e1 := fun b => h b 1
  have e2 := fun b => h b 2
  have e3 := fun b => h b 3
  have e4 := fun b => h b 4
  have e5 := fun b => h b 5
  have e6 := fun b => h b 6
  have e7 := fun b => h b 7
  simp only [Fin.isValue, Fin.coe_ofNat_eq_mod, Nat.zero_mod, Nat.one_mod, Nat.reduceMod] at e e1 e2 e3 e4 e5 e6 e7
  simp only [packByte, BitVec.getLsbD_or, e, e1, e2, e3, e4, e5, e6, e7]
  fin_cases j <;> simp

/-- The last byte holds one button and seven zeros (R141, R78). -/
theorem bitAt_zero_high (b : Bool) : bitAt b 0 &&& 0xfe#8 = 0#8 := by
  revert b; decide

end Machine
end Sys2Proof
end

