-- ==== Sys2Proof/Laws/PerInstr.lean ====
section
/-! SUPPORT. Statements made per instruction. Family TableRow: the encoder's word of an instruction is one of the
words its opcode-table row matches under its mask (30_encoding.md R81, R82). -/

namespace Sys2Proof
namespace Laws
namespace TableRow

/-- The encoded word is covered by the instruction's own row. -/
def Statement (i : Instr) : Prop := (tableRow i).covers (encode i) = true

theorem init (d : Bool) : Statement (.init d) := by cases d <;> rfl
theorem update (d : Bool) : Statement (.update d) := by cases d <;> rfl
theorem changed (d : Bool) : Statement (.changed d) := by cases d <;> rfl
theorem buildReport (d : Bool) : Statement (.buildReport d) := by cases d <;> rfl
theorem idle : Statement .idle := rfl
theorem saveIe : Statement .saveIe := rfl
theorem cfgPins : Statement .cfgPins := rfl
theorem strobeLow : Statement .strobeLow := rfl
theorem strobeOut : Statement .strobeOut := rfl
theorem settle : Statement .settle := rfl
theorem sample : Statement .sample := rfl
theorem releaseIn : Statement .releaseIn := rfl
theorem releasePu : Statement .releasePu := rfl
theorem decode : Statement .decode := rfl
theorem pack : Statement .pack := rfl
theorem restoreIe : Statement .restoreIe := rfl
theorem chg : Statement .chg := rfl
theorem copyDest : Statement .copyDest := rfl
theorem copyRep : Statement .copyRep := rfl

end TableRow
end Laws
end Sys2Proof
end

