-- ==== Sys2Proof/Laws/Step.lean ====
section
/-! SUPPORT. What a step can be, said once. -/

namespace Sys2Proof
namespace Machine

/-- A phase code is 0xF or names a micro-operation. -/
theorem decodePhase_total (p : PhaseCode) : p = 0xF#4 ∨ ∃ i, decodePhase p = .ok i := by
  have h : ∀ p : PhaseCode, p = 0xF#4 ∨ (decodePhase p).toOption.isSome = true := by decide
  rcases h p with h | h
  · exact .inl h
  · cases hd : decodePhase p with
    | ok i => exact .inr ⟨i, rfl⟩
    | error e => rw [hd] at h; cases h

/-- The block's turn: a reset edge, or the micro-operation that `PH` names. -/
theorem blockTurn_cases {s t : State} (h : blockTurn s = .next t) :
    (s.rst = true ∧ t = resetEdge s) ∨
    (s.rst = false ∧ ∃ i, decodePhase s.ph = .ok i ∧ exec i s = .next t) := by
  unfold blockTurn at h
  split at h
  · next hr => exact .inl ⟨hr, by injection h with h; exact h.symm⟩
  · next hr =>
    refine .inr ⟨by simpa using hr, ?_⟩
    split at h
    · next i hi => exact ⟨i, hi, h⟩
    · cases h

/-- A whole command's turn: a reset edge, or the command. -/
theorem invokeTurn_cases {w : CmdWord} {s t : State} (h : invokeTurn w s = .next t) :
    (s.rst = true ∧ t = resetEdge s) ∨ (s.rst = false ∧ exec (decodeCmd w) s = .next t) := by
  unfold invokeTurn at h
  split at h
  · next hr => exact .inl ⟨hr, by injection h with h; exact h.symm⟩
  · next hr => exact .inr ⟨by simpa using hr, h⟩

/-- A step is one turn. -/
theorem step_cases {s t : State} (h : step s = .next t) :
    (s.agenda = [] ∧ blockTurn s = .next t) ∨
    (∃ a rest, s.agenda = a :: rest ∧ agentTurn a { s with agenda := rest } = .next t) := by
  unfold step at h
  split at h
  · next ha => exact .inl ⟨ha, h⟩
  · next a rest ha => exact .inr ⟨a, rest, ha, h⟩

/-- A whole command that answers a next state started in IDLE (R151). -/
theorem command_cases {w : CmdWord} {f : State → State} {s t : State} (h : command w f s = .next t) :
    s.ph = phIdle ∧ t = finish (f (latch w s)) := by
  unfold command at h
  split at h
  · next hp => exact ⟨hp, by injection h with h; exact h.symm⟩
  · cases h

/-- A run of a step and `n` more. -/
theorem run_cons {n : Nat} {s t : State} (h : step s = .next t) : run (n + 1) s = run n t := by
  conv => lhs; unfold run
  rw [h]

theorem run_one {s t : State} (h : step s = .next t) : run 1 s = .next t := by rw [run_cons h]; rfl

/-- Runs compose. -/
theorem run_add {m n : Nat} {s t : State} (h : run m s = .next t) : run (m + n) s = run n t := by
  induction m generalizing s with
  | zero => injection h with h; subst h; rw [Nat.zero_add]
  | succ m ih =>
    rw [Nat.add_right_comm]
    conv => lhs; unfold run
    unfold run at h
    cases hs : step s with
    | next u => rw [hs] at h; exact ih h
    | fault r => cases r
    | refused r => rw [hs] at h; cases h

/-! ## What the block leaves to the other agents -/

/-- The environment of the block: the inputs, the other agents' state and the turns to come. -/
def SameEnvironment (s t : State) : Prop :=
  t.rst = s.rst ∧ t.cmdValid = s.cmdValid ∧ t.cmdWord = s.cmdWord ∧ t.controller = s.controller ∧ t.sw = s.sw ∧
  t.readerBuf = s.readerBuf ∧ t.agenda = s.agenda

theorem accept_sameEnvironment (w : CmdWord) (s : State) : SameEnvironment s (accept w s) := by
  unfold accept; split <;> exact ⟨rfl, rfl, rfl, rfl, rfl, rfl, rfl⟩

/-- No instruction changes the environment, but for the readings a SAMPLE takes. -/
theorem exec_sameEnvironment {i : Instr} {s t : State} (h : exec i s = .next t) : SameEnvironment s t := by
  cases i
  case init d =>
    simp only [exec, execInit] at h
    obtain ⟨_, rfl⟩ := command_cases h
    unfold acquire; rw [scan_eq]; exact ⟨rfl, rfl, rfl, rfl, rfl, rfl, rfl⟩
  case update d =>
    simp only [exec, execUpdate] at h
    obtain ⟨_, rfl⟩ := command_cases h
    unfold acquire; rw [scan_eq]; exact ⟨rfl, rfl, rfl, rfl, rfl, rfl, rfl⟩
  case changed d =>
    simp only [exec, execChanged] at h
    obtain ⟨_, rfl⟩ := command_cases h
    exact ⟨rfl, rfl, rfl, rfl, rfl, rfl, rfl⟩
  case buildReport d =>
    simp only [exec, execBuildReport] at h
    obtain ⟨_, rfl⟩ := command_cases h
    rw [buildCopies_eq]; exact ⟨rfl, rfl, rfl, rfl, rfl, rfl, rfl⟩
  case idle =>
    injection h with h
    subst h
    split
    · exact accept_sameEnvironment _ _
    · exact ⟨rfl, rfl, rfl, rfl, rfl, rfl, rfl⟩
  case releasePu => injection h with h; subst h; split <;> exact ⟨rfl, rfl, rfl, rfl, rfl, rfl, rfl⟩
  case pack => injection h with h; subst h; split <;> exact ⟨rfl, rfl, rfl, rfl, rfl, rfl, rfl⟩
  case copyDest => injection h with h; subst h; split <;> exact ⟨rfl, rfl, rfl, rfl, rfl, rfl, rfl⟩
  case copyRep => injection h with h; subst h; split <;> exact ⟨rfl, rfl, rfl, rfl, rfl, rfl, rfl⟩
  all_goals (injection h with h; subst h; exact ⟨rfl, rfl, rfl, rfl, rfl, rfl, rfl⟩)

theorem blockTurn_sameEnvironment {s t : State} (h : blockTurn s = .next t) : SameEnvironment s t := by
  rcases blockTurn_cases h with ⟨_, rfl⟩ | ⟨_, i, _, he⟩
  · exact ⟨rfl, rfl, rfl, rfl, rfl, rfl, rfl⟩
  · exact exec_sameEnvironment he

theorem invokeTurn_sameEnvironment {w : CmdWord} {s t : State} (h : invokeTurn w s = .next t) :
    SameEnvironment s t := by
  rcases invokeTurn_cases h with ⟨_, rfl⟩ | ⟨_, he⟩
  · exact ⟨rfl, rfl, rfl, rfl, rfl, rfl, rfl⟩
  · exact exec_sameEnvironment he

/-- A run of the block alone leaves the environment. -/
theorem run_sameEnvironment {n : Nat} {s t : State} (ha : s.agenda = []) (h : run n s = .next t) :
    SameEnvironment s t := by
  induction n generalizing s with
  | zero => injection h with h; subst h; exact ⟨rfl, rfl, rfl, rfl, rfl, rfl, rfl⟩
  | succ n ih =>
    unfold run at h
    cases hs : step s with
    | next u =>
      rw [hs] at h
      have hb : blockTurn s = .next u := by unfold step at hs; rw [ha] at hs; exact hs
      obtain ⟨a, b, c, d, e, f, g⟩ := blockTurn_sameEnvironment hb
      obtain ⟨a', b', c', d', e', f', g'⟩ := ih (g.trans ha) h
      exact ⟨a'.trans a, b'.trans b, c'.trans c, d'.trans d, e'.trans e, f'.trans f, g'.trans g⟩
    | fault r => cases r
    | refused r => rw [hs] at h; cases h

/-- A premise on the whole run, step by step. -/
theorem throughout_iff (P : State → Prop) (s : State) :
    Throughout P s ↔ P s ∧ ∀ t, step s = .next t → Throughout P t := by
  constructor
  · intro h
    exact ⟨h 0 s rfl, fun t ht n u hu => h (n + 1) u (by rw [run_cons ht]; exact hu)⟩
  · rintro ⟨h0, h1⟩ n t ht
    cases n with
    | zero => injection ht with ht; subst ht; exact h0
    | succ n =>
      unfold run at ht
      cases hs : step s with
      | next u => rw [hs] at ht; exact h1 u hs n t ht
      | fault r => cases r
      | refused r => rw [hs] at ht; cases ht

/-- A block left alone with `cmd_valid` low has a well-formed driver. -/
theorem wellFormedDriver_of_quiet {s : State} (ha : s.agenda = []) (hv : s.cmdValid = false) : WellFormedDriver s := by
  intro n t ht hp
  obtain ⟨_, b, _, _, _, _, g⟩ := run_sameEnvironment ha ht
  simp [presents, g, ha, b, hv] at hp

/-- The reader's steps, counted in two runs one after the other. -/
theorem readsIn_add {m n : Nat} {s t : State} (h : run m s = .next t) :
    readsIn (m + n) s = readsIn m s + readsIn n t := by
  induction m generalizing s with
  | zero => injection h with h; subst h; simp [readsIn]
  | succ m ih =>
    unfold run at h
    cases hs : step s with
    | next u =>
      rw [hs] at h
      rw [Nat.add_right_comm]
      simp only [readsIn, hs, ih h, Nat.add_assoc]
    | fault r => cases r
    | refused r => rw [hs] at h; cases h

theorem readsIn_one {s t : State} (h : step s = .next t) : readsIn 1 s = (readerSteps s).toNat := by
  simp [readsIn, h]

/-- The reader's guard, step by step. -/
theorem guardedFrom_iff (k : Nat) (s : State) :
    GuardedFrom k s ↔ ((readerSteps s = true → ¬ MidBaselineCopy s) ∧ (writesBaseline s = true → k % 5 = 0)) ∧
      ∀ t, step s = .next t → GuardedFrom (k + (readerSteps s).toNat) t := by
  constructor
  · intro h
    refine ⟨h 0 s rfl, fun t ht n u hu => ?_⟩
    have := h (1 + n) u (by rw [run_add (run_one ht)]; exact hu)
    rwa [readsIn_add (run_one ht), readsIn_one ht, ← Nat.add_assoc] at this
  · rintro ⟨h0, h1⟩ n t ht
    cases n with
    | zero => injection ht with ht; subst ht; exact h0
    | succ n =>
      unfold run at ht
      cases hs : step s with
      | next u =>
        rw [hs] at ht
        have := h1 u hs n t ht
        simp only [readsIn, hs, ← Nat.add_assoc]
        exact this
      | fault r => cases r
      | refused r => rw [hs] at ht; cases ht

/-- A run in which the reader never steps. -/
theorem readsIn_zero {n : Nat} {s : State} (h : ∀ m u, m < n → run m s = .next u → readerSteps u = false) :
    readsIn n s = 0 := by
  induction n generalizing s with
  | zero => rfl
  | succ n ih =>
    have h0 := h 0 s (Nat.succ_pos n) rfl
    cases hs : step s with
    | next u =>
      have := ih fun m v hm hv => h (m + 1) v (by omega) (by rw [run_cons hs]; exact hv)
      simp [readsIn, hs, h0, this]
    | fault r => cases r
    | refused r => simp [readsIn, hs, h0]

/-- Where the reader never steps and has no read of five outstanding, it is guarded. -/
theorem guardedFrom_of_still {k : Nat} {s : State} (hk : k % 5 = 0)
    (h : Throughout (fun t => readerSteps t = false) s) : GuardedFrom k s := by
  intro n t ht
  have h0 := h n t ht
  refine ⟨fun hr => absurd hr (by simp [h0]), fun _ => ?_⟩
  rw [readsIn_zero fun m u _ hu => h m u hu]
  exact hk

/-- A block left alone has a guarded reader. -/
theorem guardedFrom_of_quiet {k : Nat} {s : State} (hk : k % 5 = 0) (ha : s.agenda = []) : GuardedFrom k s := by
  refine guardedFrom_of_still hk fun n t ht => ?_
  obtain ⟨_, _, _, _, _, _, g⟩ := run_sameEnvironment ha ht
  simp [readerSteps, g, ha]

end Machine
end Sys2Proof
end

