-- ==== Sys2Proof/Tests/Slice0.lean ====
section
/-! SUPPORT. Tests. Expected values come from the vectors T2 to T5 and the programs P1 to P4 of
spec/95_test_vectors.md, and from the encodings of spec/30_encoding.md R80 to R82; the docstring of a test names
its source. `witness_X` shows values that meet the hypotheses of the statement `Obligations.X`, clause by clause. -/

namespace Sys2Proof
namespace Tests

open Sys2Proof.Machine

/-! ## Helpers -/

/-- An instruction answers a next state with the property. -/
def after (i : Instr) (s : State) (p : State → Bool) : Bool :=
  match exec i s with
  | .next t => p t
  | _ => false

/-- A step answers a next state with the property. -/
def afterStep (s : State) (p : State → Bool) : Bool :=
  match step s with
  | .next t => p t
  | _ => false

/-- After reset, under the ideal controller, with the row pull-ups on. -/
def base : State := { State.reset with controller := .ideal, rowPue := true }

/-- `base` in a phase. -/
def inPhase (p : PhaseCode) : State := { base with ph := p }

/-- `base` in IDLE with A and N held: `SW[3][0]` and `SW[3][4]` (P2 line 1). -/
def heldAN : State := { base with sw := base.sw.set 3 0b010001#6 }

/-- `base` with the two reports set. -/
def withReports (r q : Report) : State := { base with lastRead := r, lastReported := q }

/-- The idle report and the idle decoded state (S1). -/
def idleReport : Report := #v[0x80#8, 0x80#8, 0x00#8, 0x00#8, 0x00#8]
def idleState : ControllerState := { x := 0x80#8, y := 0x80#8, btn := Vector.replicate 17 false }

/-- Inside INIT, at the SAMPLE of column 1. -/
def initAtSample : State :=
  { base with
    ph := 0x6#4, col := 1, colDir := #v[false, true, false, false], colPue := #v[true, false, false, false]
    ie := false, ieSaved := true, settleCnt := 1 }

/-! ## What is legal -/

theorem test_reference_config_is_legal : Config.reference.wf := by decide

theorem test_wf_refuses_a_shared_position :
    ¬ { Config.reference with map := Config.mapRef.set 1 ⟨3, 0⟩ }.MapInjective ∧
    ¬ { Config.reference with map := Config.mapRef.set 1 ⟨3, 0⟩ }.wf := by decide

theorem test_wf_refuses_another_place_for_a :
    ¬ { Config.reference with map := Config.mapRef.set 0 ⟨0, 5⟩ }.MapFixesA ∧
    ¬ { Config.reference with map := Config.mapRef.set 0 ⟨0, 5⟩ }.wf := by decide

theorem test_wf_refuses_a_repeated_direction :
    ¬ { Config.reference with dirOrder := [.north, .south, .east, .east] }.DirOrderLegal ∧
    ¬ { Config.reference with dirOrder := [.north, .south, .east, .east] }.wf := by decide

theorem test_wf_refuses_star_and_zero_together :
    ¬ { Config.reference with posZero := 14 }.PosLegal ∧ ¬ { Config.reference with posZero := 14 }.wf := by decide

theorem test_wf_refuses_no_settle_tick :
    ¬ { Config.reference with nSettle := 0 }.SettleLegal ∧ ¬ { Config.reference with nSettle := 0 }.wf := by decide

theorem test_wf_refuses_a_settle_below_two_ms :
    ¬ { Config.reference with fClk := 501 }.SettleTimeLegal ∧ ¬ { Config.reference with fClk := 501 }.wf := by decide

theorem test_wf_refuses_another_count :
    ¬ { Config.reference with buildRetNoDest := 4#3 }.BuildRetLegal ∧
    ¬ { Config.reference with buildRetNoDest := 4#3 }.wf := by decide

/-! ## Words, bit by bit (R80: D, OP1, OP0; R82) -/

theorem test_word_init : decodeCmd 0b000#3 = .init false ∧ decodeCmd 0b100#3 = .init true := by decide
theorem test_word_update : decodeCmd 0b001#3 = .update false ∧ decodeCmd 0b101#3 = .update true := by decide
theorem test_word_changed : decodeCmd 0b010#3 = .changed false ∧ decodeCmd 0b110#3 = .changed true := by decide
theorem test_word_buildReport :
    decodeCmd 0b011#3 = .buildReport false ∧ decodeCmd 0b111#3 = .buildReport true := by decide
theorem test_word_idle : decodePhase 0b0000#4 = .ok .idle := by rfl
theorem test_word_saveIe : decodePhase 0b0001#4 = .ok .saveIe := by rfl
theorem test_word_cfgPins : decodePhase 0b0010#4 = .ok .cfgPins := by rfl
theorem test_word_strobeLow : decodePhase 0b0011#4 = .ok .strobeLow := by rfl
theorem test_word_strobeOut : decodePhase 0b0100#4 = .ok .strobeOut := by rfl
theorem test_word_settle : decodePhase 0b0101#4 = .ok .settle := by rfl
theorem test_word_sample : decodePhase 0b0110#4 = .ok .sample := by rfl
theorem test_word_releaseIn : decodePhase 0b0111#4 = .ok .releaseIn := by rfl
theorem test_word_releasePu : decodePhase 0b1000#4 = .ok .releasePu := by rfl
theorem test_word_decode : decodePhase 0b1001#4 = .ok .decode := by rfl
theorem test_word_pack : decodePhase 0b1010#4 = .ok .pack := by rfl
theorem test_word_restoreIe : decodePhase 0b1011#4 = .ok .restoreIe := by rfl
theorem test_word_chg : decodePhase 0b1100#4 = .ok .chg := by rfl
theorem test_word_copyDest : decodePhase 0b1101#4 = .ok .copyDest := by rfl
theorem test_word_copyRep : decodePhase 0b1110#4 = .ok .copyRep := by rfl
theorem test_word_reserved : decodePhase 0b1111#4 = .error .reservedPhase := by rfl

/-- The table's own numbering (log 16). -/
theorem test_table_words :
    decodeTableWord 3 0b110 = some (.changed true) ∧ decodeTableWord 4 0x3 = some .strobeLow ∧
    decodeTableWord 4 0xF = none ∧ decodeTableWord 8 0x3 = some (.buildReport false) ∧
    decodeTableWord 8 0xE = some .copyRep ∧ decodeTableWord 8 0x10 = none := by decide

/-! ## Commands -/

/-- P1 line 1. -/
theorem test_init_reads_idle_and_restores_ie :
    after (.init false) { State.reset with controller := .ideal } (fun t =>
      t.lastRead == idleReport && t.lastReported == State.reset.lastReported && t.first && t.ie && t.ieSaved &&
      t.rowPue && t.col == 3 && t.ph == 0x0#4 && t.done) = true := by decide

/-- P2 line 2. -/
theorem test_update_reads_held_switches :
    after (.update false) heldAN (fun t =>
      t.raw == #v[0x3f#8, 0x3f#8, 0x3f#8, 0x2e#8] &&
      t.lastRead == #v[0x80#8, 0x00#8, 0x01#8, 0x00#8, 0x00#8]) = true := by decide

/-- T2.42, by readings a controller supplies: all 21 fields. -/
theorem test_update_takes_supplied_readings :
    after (.update true) { base with controller := .supplied, rowsIn := [0b100000, 0b100000, 0b100000, 0] }
      (fun t => t.lastRead == #v[0x00#8, 0xff#8, 0xff#8, 0xff#8, 0x01#8] && t.rowsIn == []) = true := by decide

/-- T5.4 as a whole command. -/
theorem test_changed_sees_the_last_byte :
    after (.changed false) { withReports (idleReport.set 4 0x01#8) idleReport with first := false }
      (fun t => t.changedQ && !t.first) = true := by decide

/-- T5.8. -/
theorem test_buildReport_with_destination :
    after (.buildReport true) (withReports #v[0x80#8, 0x80#8, 0x01#8, 0x00#8, 0x00#8] idleReport) (fun t =>
      t.lastReported == #v[0x80#8, 0x80#8, 0x01#8, 0x00#8, 0x00#8] &&
      t.dest == #v[0x80#8, 0x80#8, 0x01#8, 0x00#8, 0x00#8] && t.nwritten == 5#3 && t.first) = true := by decide

/-- T5.9. -/
theorem test_buildReport_without_destination :
    after (.buildReport false)
      { withReports #v[0x80#8, 0x80#8, 0x01#8, 0x00#8, 0x00#8] idleReport with
        dest := #v[0x11#8, 0x22#8, 0x33#8, 0x44#8, 0x55#8] }
      (fun t => t.lastReported == #v[0x80#8, 0x80#8, 0x01#8, 0x00#8, 0x00#8] &&
        t.dest == #v[0x11#8, 0x22#8, 0x33#8, 0x44#8, 0x55#8] && t.nwritten == 0#3) = true := by decide

/-- R151, D19. -/
theorem test_command_inside_a_command_is_refused :
    exec (.update false) initAtSample = .refused .reentrant := by rfl

/-! ## Micro-operations -/

/-- T5.14, T5.15. -/
theorem test_idle_ignores_d :
    after .idle { base with cmdValid := true, cmdWord := 0b110#3 } (fun t => t.ph == 0xC#4 && t.cmdQ == 6#3) = true ∧
    after .idle { base with cmdValid := true, cmdWord := 0b100#3 } (fun t => t.ph == 0x1#4) = true := by decide

/-- T5.17. -/
theorem test_idle_accepts_ack :
    after .idle { base with cmdValid := true, cmdWord := 0b011#3, idx := 4 }
      (fun t => t.ph == 0xE#4 && t.idx == 0 && !t.done) = true := by decide

/-- T5.19. -/
theorem test_saveIe_masks :
    after .saveIe (inPhase 0x1#4) (fun t => t.ieSaved && !t.ie && t.ph == 0x2#4) = true := by decide

/-- T5.20: restored, not enabled. -/
theorem test_restoreIe_keeps_a_zero :
    after .restoreIe { inPhase 0xB#4 with ie := false, ieSaved := false }
      (fun t => !t.ie && t.ph == 0x0#4 && t.done) = true := by decide

/-- R100: `COL_LVL` is not written. -/
theorem test_cfgPins_floats_columns :
    after .cfgPins { inPhase 0x2#4 with colPue := Vector.replicate 4 true, rowPue := false, col := 3 }
      (fun t => t.colPue == Vector.replicate 4 false && t.rowPue && t.col == 0 && t.ph == 0x3#4) = true := by decide

/-- T4.1. -/
theorem test_strobeLow_keeps_the_pull_up :
    after .strobeLow { inPhase 0x3#4 with col := 1, colPue := Vector.replicate 4 true }
      (fun t => pad t 1 == .pullUp && t.ph == 0x4#4) = true := by decide

/-- T4.2. -/
theorem test_strobeOut_drives_low :
    after .strobeOut { inPhase 0x4#4 with col := 1, colPue := Vector.replicate 4 true }
      (fun t => pad t 1 == .low && pad t 0 == .pullUp && t.settleCnt == 1 && t.ph == 0x5#4) = true := by decide

/-- T4.12, T4.13. -/
theorem test_settle_counts_down :
    after .settle { inPhase 0x5#4 with settleCnt := 3 } (fun t => t.settleCnt == 2 && t.ph == 0x5#4) = true ∧
    after .settle { inPhase 0x5#4 with settleCnt := 1 } (fun t => t.settleCnt == 1 && t.ph == 0x6#4) = true := by decide

/-- T4.11: row 5, the single-bit source. -/
theorem test_sample_takes_row_five :
    after .sample { inPhase 0x6#4 with col := 3, controller := .supplied, rowsIn := [0b011111] }
      (fun t => t.raw == #v[0x00#8, 0x00#8, 0x00#8, 0x1f#8] && t.ph == 0x7#4) = true := by decide

/-- T4.10: bits 7:6 written 0. -/
theorem test_sample_zero_extends :
    after .sample { inPhase 0x6#4 with
        raw := Vector.replicate 4 0xff#8, col := 1, controller := .supplied, rowsIn := [0b101010] }
      (fun t => t.raw == #v[0xff#8, 0x2a#8, 0xff#8, 0xff#8]) = true := by decide

/-- T4.5, and the column inside INIT (section 4.1, last paragraph). -/
theorem test_releaseIn_never_drives_high :
    after .releaseIn { inPhase 0x7#4 with col := 1, colDir := Vector.replicate 4 true } (fun t =>
      pad t 1 == .floating && pad t 2 == .low && t.ph == 0x8#4) = true := by decide

/-- T4.6. -/
theorem test_releasePu_goes_to_column_two :
    after .releasePu { inPhase 0x8#4 with col := 1 }
      (fun t => pad t 1 == .pullUp && t.col == 2 && t.ph == 0x3#4) = true := by decide

/-- R106: after column 3 the scan ends and `COL` keeps 3. -/
theorem test_releasePu_ends_at_column_three :
    after .releasePu { inPhase 0x8#4 with col := 3 } (fun t => t.col == 3 && t.ph == 0x9#4) = true := by decide

/-- T2.29: both tie-breaks. -/
theorem test_decode_last_direction_wins :
    after .decode { inPhase 0x9#4 with raw := #v[0x3f#8, 0x3f#8, 0x3f#8, 0x21#8] } (fun t =>
      t.cs == { idleState with x := 0x00#8, y := 0xff#8 } && t.ph == 0xA#4) = true := by decide

/-- T2.33 with bits 7:6 set (T2.42): K1, K5, K9. -/
theorem test_decode_ignores_high_bits :
    after .decode { inPhase 0x9#4 with raw := #v[0xf7#8, 0xfb#8, 0xfd#8, 0xff#8] } (fun t =>
      t.cs == { idleState with btn := ((idleState.btn.set 7 true).set 9 true).set 11 true }) = true := by decide

/-- T3.22. -/
theorem test_pack_places_buttons :
    after .pack { inPhase 0xA#4 with cmdQ := 0b001#3, cs := { x := 0xff#8, y := 0x00#8
                                                              btn := (((idleState.btn.set 0 true).set 4 true).set 9
                                                                true).set 14 true } }
      (fun t => t.lastRead == #v[0xff#8, 0x00#8, 0x11#8, 0x42#8, 0x00#8] && t.ph == 0x0#4 && t.done) = true := by decide

/-- T3.19, inside INIT. -/
theorem test_pack_clears_the_high_bits :
    after .pack { inPhase 0xA#4 with
        lastRead := Vector.replicate 5 0xff#8, cs := { x := 0xff#8, y := 0xff#8, btn := Vector.replicate 17 true } }
      (fun t => t.lastRead == #v[0xff#8, 0xff#8, 0xff#8, 0xff#8, 0x01#8] && t.ph == 0xB#4) = true := by decide

/-- T3.23, T3.25. -/
theorem test_unpack_drops_the_high_bits :
    unpack #v[0x80#8, 0x80#8, 0x00#8, 0x00#8, 0xfe#8] = idleState ∧
    (unpack #v[0x80#8, 0x80#8, 0x80#8, 0x0a#8, 0x00#8]).btn =
      ((idleState.btn.set 7 true).set 9 true).set 11 true := by decide

/-- T5.1. -/
theorem test_chg_first_call_answers_yes :
    after .chg { withReports idleReport idleReport with ph := 0xC#4 }
      (fun t => t.changedQ && !t.first && t.done) = true := by decide

/-- T5.3. -/
theorem test_chg_equal_answers_no :
    after .chg { withReports idleReport idleReport with ph := 0xC#4, first := false, changedQ := true }
      (fun t => !t.changedQ && !t.first) = true := by decide

/-- Section 5.3, clocks 4 and 5. -/
theorem test_copyDest_copies_one_byte :
    after .copyDest { withReports #v[1, 2, 3, 4, 5] idleReport with ph := 0xD#4, cmdQ := 7, idx := 3 } (fun t =>
      t.dest == #v[0, 0, 0, 4, 0] && t.idx == 4 && t.ph == 0xD#4) = true ∧
    after .copyDest { withReports #v[1, 2, 3, 4, 5] idleReport with ph := 0xD#4, cmdQ := 7, idx := 4 } (fun t =>
      t.dest == #v[0, 0, 0, 0, 5] && t.idx == 0 && t.ph == 0xE#4) = true := by decide

/-- Section 5.3, clocks 6 and 10. -/
theorem test_copyRep_copies_one_byte :
    after .copyRep { withReports #v[1, 2, 3, 4, 5] #v[6, 7, 8, 9, 10] with ph := 0xE#4, cmdQ := 7 } (fun t =>
      t.lastReported == #v[1, 7, 8, 9, 10] && t.idx == 1 && t.ph == 0xE#4 && t.nwritten == 0) = true ∧
    after .copyRep { withReports #v[1, 2, 3, 4, 5] #v[1, 2, 3, 4, 10] with ph := 0xE#4, cmdQ := 7, idx := 4 } (fun t =>
      t.lastReported == #v[1, 2, 3, 4, 5] && t.nwritten == 5 && t.ph == 0x0#4 && t.done) = true := by decide

/-! ## Agents and outputs -/

/-- `DEST[i]` at bits 8i+7 : 8i (R150). -/
theorem test_destBus_order :
    destBus { base with dest := #v[0x80#8, 0x00#8, 0x01#8, 0x00#8, 0x00#8] } = 0x0000010080#40 := by decide

/-- P2 line 1: `SW[3][0] = SW[3][4] = 1`. -/
theorem test_press_closes_the_mapped_switch :
    (setSwitch (.dir .north) true (setSwitch (.button .btnA) true base)).sw = heldAN.sw ∧
    (setSwitch (.dir .north) false (setSwitch (.button .btnA) false heldAN)).sw = base.sw := by decide

/-- T4.18: with the row pull-ups off a closed switch still reads 0. -/
theorem test_closed_switch_reads_zero_without_pull_ups :
    (pinRead { heldAN with rowPue := false, col := 3 }).getLsbD 0 = false := by
  unfold pinRead; simp only [show heldAN.controller = .ideal from rfl, idealRows, BitVec.getLsbD_and]; rfl

/-- R7 pin identities: a column pin, a row pin, a pin of neither; and none named. -/
theorem test_padAtPin_follows_the_pin_map :
    let m : PinMap := ⟨#v[⟨0, 0, 4⟩, ⟨1, 0, 5⟩, ⟨2, 0, 6⟩, ⟨3, 0, 7⟩],
      #v[⟨8, 1, 0⟩, ⟨9, 1, 1⟩, ⟨10, 1, 2⟩, ⟨11, 1, 3⟩, ⟨12, 1, 4⟩, ⟨13, 1, 5⟩]⟩
    let s := { initAtSample with cfg := { Config.reference with pins := some m } }
    padAtPin s ⟨1, 0, 5⟩ = some .low ∧ padAtPin s ⟨0, 0, 4⟩ = some .pullUp ∧ padAtPin s ⟨3, 0, 7⟩ = some .floating ∧
    padAtPin s ⟨13, 1, 5⟩ = some .pullUp ∧ padAtPin s ⟨13, 1, 6⟩ = none ∧ padAtPin initAtSample ⟨1, 0, 5⟩ = none := by
  decide

/-- R88(b): UPDATE, CHANGED, and BUILDREPORT with destination if the answer was yes. -/
theorem test_poll_turns :
    Line.turns .poll = [.invoke 0b001#3, .invoke 0b010#3, .invokeIfChanged 0b111#3] := by rfl

/-- T5.16: in SETTLE the port is ignored. -/
theorem test_port_is_ignored_inside_a_command :
    afterStep { inPhase 0x5#4 with settleCnt := 3, cmdValid := true, cmdWord := 0b010#3, cmdQ := 0b001#3 }
      (fun t => t.ph == 0x5#4 && t.cmdQ == 0b001#3) = true := by decide

/-- A placed command word and a placed phase code run on the next step (log 17). -/
theorem test_withFetchWord_runs_next :
    afterStep (base.withFetchWord 3 0b001) (fun t => t.lastRead == idleReport && t.agenda == []) = true ∧
    afterStep (base.withFetchWord 4 0x8) (fun t => pad t 0 == .pullUp && t.col == 1) = true := by decide

/-! ## Witnesses of the statements' hypotheses -/

/-- R36 holds of a state that is not the reset state. -/
theorem maskedReset_atReset : AtReset { State.reset with ie := false, dest := idleReport } := by
  constructor <;> decide

theorem initAtSample_inv : BlockInv initAtSample := by constructor <;> decide

/-- `base` with `rst` = 1 inside a command, a command presented (T5.18). -/
def resetHigh : State := { inPhase 0x5#4 with rst := true, cmdValid := true, settleCnt := 1 }

theorem witness_ResetEdgeLoadsResetValues : resetHigh.rst = true ∧ resetHigh.ph ≠ 0x0#4 ∧ resetHigh.cmdValid = true := by
  decide

theorem witness_DecodeInvertsEncode :
    decode (.cmd3 0b111#3) = .ok (.buildReport true) ∧ decode (.ph4 0xE#4) = .ok .copyRep := by decide

theorem witness_OpcodeRowsCoverOneInstruction :
    decode (.cmd3 0b111#3) = .ok (.buildReport true) ∧ tableRow (.buildReport false) = tableRow (.buildReport true) ∧
    tableRow .copyRep ≠ tableRow (.buildReport true) := by decide

/-- One state for each clause: empty agenda, the block's turn, a call, the branch taken and not taken. -/
theorem witness_StepRunsDecodedInstruction :
    (base.rst = false ∧ base.agenda = [] ∧ decodePhase base.ph = .ok .idle) ∧
    (∃ rest, { inPhase 0xE#4 with agenda := [.block, .readerRead 0] }.agenda = .block :: rest ∧
      decodePhase (inPhase 0xE#4).ph = .ok .copyRep) ∧
    (∃ rest, { base with agenda := [.invoke 0b111#3] }.agenda = .invoke 0b111#3 :: rest) ∧
    (∃ rest, { base with agenda := [.invokeIfChanged 0b111#3] }.agenda = .invokeIfChanged 0b111#3 :: rest ∧
      base.changedQ = false ∧ { base with changedQ := true }.changedQ = true) :=
  ⟨⟨rfl, rfl, rfl⟩, ⟨_, rfl, rfl⟩, ⟨_, rfl⟩, ⟨_, rfl, rfl, rfl⟩⟩

theorem witness_PlacedWordRunsNext :
    decodeTableWord 3 7 = some (.buildReport true) ∧ decodeTableWord 4 0 = some .idle ∧
    decodeTableWord 8 3 = some (.buildReport false) ∧ decodeTableWord 8 4 = some .strobeOut ∧
    decodeTableWord 8 0xE = some .copyRep := by decide

theorem witness_ReservedPhaseIsRefused :
    (inPhase 0xF#4).ph = 0xF#4 ∧ (inPhase 0xF#4).agenda = [] ∧ (inPhase 0xF#4).rst = false ∧
    { inPhase 0xF#4 with rst := true }.rst = true := by decide

theorem witness_OneCommandAtATime : initAtSample.ph ≠ 0x0#4 := by decide

/-- The six clauses, one presented word each. -/
theorem witness_IdleAcceptsPresentedCommand :
    base.cmdValid = false ∧
    ({ base with cmdValid := true }.cmdValid = true ∧ (0b100#3).extractLsb' 0 2 = 0b00#2) ∧
    (0b101#3).extractLsb' 0 2 = 0b01#2 ∧ (0b110#3).extractLsb' 0 2 = 0b10#2 ∧
    { base with cmdValid := true, cmdWord := 0b111#3 }.cmdWord = 0b111#3 ∧
    { base with cmdValid := true, cmdWord := 0b011#3 }.cmdWord = 0b011#3 := by decide

theorem witness_StrobeLowClearsLevel : ∀ c : Column, (inPhase 0x3#4).colLvl[c] = false := by decide

theorem witness_StrobeOutDrivesColumn :
    (inPhase 0x4#4).colLvl[(inPhase 0x4#4).col] = false ∧ (3 : Column) ≠ (inPhase 0x4#4).col ∧
    ∀ c, c ≠ (inPhase 0x4#4).col → (inPhase 0x4#4).colDir[c] = false := by decide

/-- `SETTLE_CNT` on both sides of 1, a state in SETTLE at the shortest hold, and a legal configuration. -/
theorem witness_SettleHoldsForItsClocks :
    { inPhase 0x5#4 with settleCnt := 2 }.settleCnt > 1 ∧ ¬ { inPhase 0x5#4 with settleCnt := 1 }.settleCnt > 1 ∧
    ((inPhase 0x5#4).ph = 0x5#4 ∧ (inPhase 0x5#4).agenda = [] ∧ (inPhase 0x5#4).rst = false ∧
      1 ≤ { inPhase 0x5#4 with settleCnt := 1 }.settleCnt ∧ 0 < { inPhase 0x5#4 with settleCnt := 1 }.settleCnt) ∧
    Config.reference.wf := by decide

theorem witness_SampleStoresRowReading :
    { base with controller := .supplied, rowsIn := [0b000000] }.controller = .supplied ∧
    { base with controller := .supplied, rowsIn := [0b000000] }.rowsIn = 0b000000 :: [] := by decide

/-- A closed line, an open line with the row pull-ups on, an open line with them off, a supplied reading, none
ready. -/
theorem witness_IdealControllerReading :
    (heldAN.controller = .ideal ∧ (heldAN.sw[({ heldAN with col := 3 }).col]).getLsbD (0 : Fin 6) = true) ∧
    ((heldAN.sw[({ heldAN with col := 3 }).col]).getLsbD (5 : Fin 6) = false ∧ heldAN.rowPue = true) ∧
    { heldAN with rowPue := false }.rowPue = false ∧
    ({ base with controller := .supplied, rowsIn := [0b101010] }.controller = .supplied ∧
      { base with controller := .supplied, rowsIn := [0b101010] }.rowsIn = 0b101010 :: []) ∧
    { base with controller := .supplied }.rowsIn = [] := by decide

theorem witness_ReleasePuAdvancesScan :
    { inPhase 0x8#4 with col := 3 }.col = 3 ∧ { inPhase 0x8#4 with col := 2 }.col ≠ 3 := by decide

theorem witness_DecodeMeetsFunctionalForm : (inPhase 0x9#4).cfg.wf := test_reference_config_is_legal

/-- Two samples that differ in bits 7:6 and in the three positions without a field. -/
theorem witness_DecodeReadsMappedBitsOnly : ∀ f : Field,
    rawBit #v[0x1f#8, 0x1f#8, 0x1f#8, 0xff#8] (Config.reference.mapOf f) =
      rawBit #v[0xff#8, 0xff#8, 0xff#8, 0x3f#8] (Config.reference.mapOf f) := by
  rintro (b | d)
  · cases b <;> rfl
  · cases d <;> rfl

theorem witness_SourceScenariosDecode :
    Config.reference.wf ∧
    (∀ c : Column, (#v[0x7f#8, 0xbf#8, 0x3f#8, 0xff#8])[c] &&& 0x3f#8 = 0x3f#8) ∧
    (∀ c : Column, (#v[0xff#8, 0xff#8, 0xff#8, 0xfe#8])[c] &&& 0x3f#8 = if c = 3 then 0x3e#8 else 0x3f#8) := by decide

/-- PACK inside INIT and inside UPDATE, and the boundary bit 1 of the last byte. -/
theorem witness_PackWritesReport :
    (inPhase 0xA#4).cmdQ.extractLsb' 0 2 = 0b00#2 ∧
    { inPhase 0xA#4 with cmdQ := 0b001#3 }.cmdQ.extractLsb' 0 2 ≠ 0b00#2 ∧ 1 ≤ 1 := by decide

theorem witness_UnpackInvertsPack :
    pack idleState = pack idleState ∧ idleReport[4].extractLsb' 1 7 = 0#7 := by decide

theorem witness_PackingOrderOfKeys : Config.reference.posStar = 14 ∧ Config.reference.posZero = 15 := by decide

theorem witness_ChgAnswersAndConsumesFirst :
    (inPhase 0xC#4).first = true ∧ { inPhase 0xC#4 with first := false }.first = false := by decide

theorem witness_CopyDestMovesOneByte :
    { inPhase 0xD#4 with idx := 4 }.idx = 4 ∧ { inPhase 0xD#4 with idx := 3 }.idx ≠ 4 := by decide

theorem witness_CopyRepMovesOneByte :
    { inPhase 0xE#4 with idx := 4 }.idx = 4 ∧ { inPhase 0xE#4 with idx := 3 }.idx ≠ 4 := by decide

theorem witness_UpdateAcquiresReport : heldAN.ph = 0x0#4 := by decide
theorem witness_InitAcquiresReportMasked : State.reset.ph = 0x0#4 := by decide
theorem witness_ChangedAnswers : (withReports idleReport State.reset.lastReported).ph = 0x0#4 := by decide
theorem witness_BuildReportAdvancesBaseline : (withReports idleReport State.reset.lastReported).ph = 0x0#4 := by decide

/-- A word of each command presented, at the least `N_SETTLE`. -/
theorem witness_CommandEqualsItsPhases : ∀ w : CmdWord,
    let s := { base with cmdValid := true, cmdWord := w }
    1 ≤ s.cfg.nSettle ∧ s.ph = 0x0#4 ∧ s.agenda = [] ∧ s.rst = false ∧ s.cmdValid = true := by decide

/-- A state `Booted` gives: INIT after the reset registers. -/
theorem witness_booted : ∃ t, Booted t := ⟨_, _, false, maskedReset_atReset, rfl⟩

/-- The five clauses. -/
theorem witness_ChangeTrackerProperties :
    (∃ t, exec (.init true) base = .next t ∧ base.first = true) ∧ (∃ t, Booted t) ∧
    (∃ t, exec (.buildReport false) { base with first := false } = .next t ∧ { base with first := false }.first = false) ∧
    (∃ s t cs, s.lastReported = pack cs ∧ exec (.update false) s = .next t ∧ t.cs ≠ cs) ∧
    (∃ t, exec (.buildReport true) base = .next t) :=
  ⟨⟨_, rfl, rfl⟩, witness_booted, ⟨_, rfl, rfl⟩,
    ⟨{ heldAN with lastReported := idleReport }, _, idleState, by decide, rfl, by decide⟩, ⟨_, rfl⟩⟩

/-- Equal readings supplied twice, an ideal controller, and a second INIT. -/
theorem witness_ScansAreIdempotent :
    (∃ s t u : State, exec (.update false) s = .next t ∧ exec (.update true) t = .next u ∧
      s.controller = .supplied ∧ ∀ c, reading t c = reading s c) ∧
    (∃ t u : State, exec (.update false) heldAN = .next t ∧ exec (.update true) t = .next u ∧ IdealRows heldAN) ∧
    (∃ t u : State, exec (.init false) heldAN = .next t ∧ exec (.init false) t = .next u ∧
      ∀ c, reading t c = reading { heldAN with rowPue := true } c) :=
  ⟨⟨{ base with controller := .supplied, rowsIn := [1, 2, 3, 4, 1, 2, 3, 4] }, _, _, rfl, rfl, rfl, by decide⟩,
    ⟨_, _, rfl, rfl, rfl, rfl⟩, ⟨_, _, rfl, rfl, by decide⟩⟩

theorem witness_AbsentControllerReadsIdle :
    base.ph = 0x0#4 ∧ base.controller = .ideal ∧ base.sw = Vector.replicate 4 0#6 ∧ base.rowPue = true := by decide

theorem witness_HeldSwitchesReachTheReport : heldAN.cfg.wf ∧ IdealRows heldAN ∧ heldAN.ph = 0x0#4 :=
  ⟨test_reference_config_is_legal, ⟨rfl, rfl⟩, rfl⟩

theorem witness_InvariantAtReset :
    AtReset { State.reset with ie := false, dest := idleReport } ∧
    { State.reset with ie := false, dest := idleReport }.done = false := ⟨maskedReset_atReset, rfl⟩

theorem witness_EveryStepKeepsInvariant : ∃ t, BlockInv initAtSample ∧ step initAtSample = .next t :=
  ⟨_, initAtSample_inv, rfl⟩

/-- After a completed UPDATE. -/
def afterUpdate : State := { base with cmdQ := 0b001#3, done := true, col := 3, colPue := Vector.replicate 4 true }

theorem afterUpdate_inv : BlockInv afterUpdate := by constructor <;> decide

/-- At the SAMPLE of column 2 in UPDATE, before any INIT (R194) and after one. -/
def updateAtSample (kept : Bool) : State :=
  { base with
    cmdQ := 0b001#3, ph := 0x6#4, col := 2, colDir := #v[false, false, true, false]
    colPue := #v[true, true, kept, kept], settleCnt := 1 }

theorem updateAtSample_inv : ∀ kept, BlockInv (updateAtSample kept) := by
  rintro (_ | _) <;> constructor <;> decide

theorem base_inv : BlockInv base := by constructor <;> decide

/-- IDLE with no pull-up, and with all; a SAMPLE of INIT, of an UPDATE before any INIT, of one after; a completed
UPDATE. -/
theorem witness_InvariantGivesPinSafety :
    (BlockInv base ∧ base.ph = 0x0#4 ∧ pad base 3 = .floating) ∧
    (BlockInv afterUpdate ∧ afterUpdate.ph = 0x0#4 ∧ PullUpsKept afterUpdate) ∧
    (BlockInv initAtSample ∧ initAtSample.colDir[(1 : Column)] = true ∧ initAtSample.ph = 0x6#4 ∧
      opOf initAtSample.cmdQ = 0b00#2 ∧ (0 : Column) < initAtSample.col ∧ initAtSample.col < (2 : Column)) ∧
    (∀ kept, BlockInv (updateAtSample kept) ∧ (updateAtSample kept).ph = 0x6#4 ∧
      opOf (updateAtSample kept).cmdQ ≠ 0b00#2) ∧
    ((1 : Column) < (updateAtSample false).col ∧ (updateAtSample false).col < (3 : Column) ∧
      PullUpsKept (updateAtSample true) ∧ (3 : Column) ≠ (updateAtSample true).col) ∧
    (afterUpdate.done = true ∧ opOf afterUpdate.cmdQ = 0b01#2) :=
  ⟨⟨base_inv, by decide⟩, ⟨afterUpdate_inv, rfl, .inl (by decide)⟩, ⟨initAtSample_inv, by decide⟩,
    fun kept => ⟨updateAtSample_inv kept, rfl, show (0b01#2 : BitVec 2) ≠ 0b00#2 by decide⟩, ⟨by decide, by decide, .inl (by decide), by decide⟩, by decide⟩

/-- One step, then a block left alone. -/
theorem calls_wellFormed {s t : State} (hp : presents s = true → cmdReady s = true) (hs : step s = .next t)
    (ha : t.agenda = []) (hv : t.cmdValid = false) : WellFormedDriver s := by
  refine (throughout_iff _ s).mpr ⟨hp, fun u hu => ?_⟩
  rw [hs] at hu
  injection hu with hu
  subst hu
  exact wellFormedDriver_of_quiet ha hv

/-- Inside a command with the block left alone, and in IDLE with a call next. -/
theorem witness_NothingIsStuck :
    (BlockInv initAtSample ∧ WellFormedDriver initAtSample) ∧
    (BlockInv { afterUpdate with agenda := [.invoke 0b111#3] } ∧
      presents { afterUpdate with agenda := [.invoke 0b111#3] } = true ∧
      WellFormedDriver { afterUpdate with agenda := [.invoke 0b111#3] }) :=
  ⟨⟨initAtSample_inv, wellFormedDriver_of_quiet rfl rfl⟩,
    by constructor <;> decide, rfl, calls_wellFormed (by decide) rfl rfl rfl⟩

/-- `cmd_valid` held at 1 inside a command is no well-formed driver (R151, R205). -/
theorem test_held_cmd_valid_is_not_wellFormed : ¬ WellFormedDriver { initAtSample with cmdValid := true } :=
  fun h => absurd (h 0 _ rfl rfl) (by decide)

/-- A read inside a baseline copy, one block step ahead, is not guarded (R59). -/
theorem test_torn_reader_is_not_guarded :
    ¬ GuardedReader { inPhase 0xE#4 with cmdQ := 0b111#3, agenda := [.block, .readerRead 0] } :=
  fun h => absurd ((h 1 _ rfl).1 rfl) (by decide)

/-- A whole BUILDREPORT between the first and the last of five reads is not guarded either (R59). -/
theorem test_copy_among_five_reads_is_not_guarded :
    ¬ GuardedReader { base with agenda := [.readerRead 0, .invoke 0b011#3, .readerRead 1] } :=
  fun h => absurd ((h 1 _ rfl).2 rfl) (by decide)

/-- P4 to P6 take `IdealController` from `AtReset`, with `ROW_PUE` = 0; an UPDATE there would read floating rows. -/
theorem test_update_without_pull_ups_is_not_ideal :
    ¬ IdealController { State.reset with controller := .ideal, agenda := [.invoke 0b001#3] } :=
  fun h => absurd ((h 0 _ rfl).2 rfl) (by decide)

/-- The end of a run from its steps. -/
theorem runEndsAt_of {s t : State} (n : Nat) (hn : 0 < n) (ht : run n s = .next t) (hd : lastDone t = true)
    (before : ∀ m, m < n → (match run m s with | .next u => lastDone u | _ => false) = false) : RunEndsAt s t :=
  ⟨n, hn, ht, hd, fun m u hm hu => by have := before m hm; rw [hu] at this; exact this⟩

/-- `poll` with nothing changed (P2 lines 5, 6): the run ends with CHANGED, the branch not taken. -/
theorem test_run_of_poll_ends_at_changed :
    ∃ t, RunEndsAt ({ base with lastReported := idleReport, first := false }.withProgram [.poll]) t ∧
      t.changedQ = false ∧ t.agenda = [.invokeIfChanged 0b111#3] :=
  ⟨_, runEndsAt_of 2 (by decide) rfl rfl (by decide), rfl, rfl⟩

/-- CHANGED on the port: acceptance, CHG, and the end with its `done`. -/
theorem test_run_on_the_port_ends_with_done :
    ∃ t, RunEndsAt { base with agenda := [.drivePort true 0b010#3, .block, .drivePort false 0b010#3] } t ∧
      t.changedQ = true := ⟨_, runEndsAt_of 4 (by decide) rfl rfl (by decide), rfl⟩

/-- A press alone, `done` still 1 from an UPDATE: no end. -/
theorem test_run_without_a_command_has_no_end_at_once :
    lastDone (afterUpdate.withProgram [.press [.button .btnA]]) = true ∧
    ∀ t, ¬ RunEndsAt (afterUpdate.withProgram [.press [.button .btnA]]) t :=
  ⟨by decide, fun _ ⟨_, hn, _, _, before⟩ => absurd (before 0 _ hn rfl) (by decide)⟩

/-- Inside INIT, and inside UPDATE. -/
theorem witness_EveryCommandEnds :
    (BlockInv initAtSample ∧ initAtSample.ph ≠ 0x0#4 ∧ initAtSample.agenda = [] ∧ initAtSample.rst = false ∧
      1 ≤ initAtSample.cfg.nSettle) ∧
    (BlockInv (updateAtSample true) ∧ (updateAtSample true).ph ≠ 0x0#4 ∧ (updateAtSample true).agenda = [] ∧
      (updateAtSample true).rst = false ∧ 1 ≤ (updateAtSample true).cfg.nSettle) :=
  ⟨⟨initAtSample_inv, by decide⟩, updateAtSample_inv true, by decide⟩

/-- Each register of the statement changed by one of its writers, in its order. -/
theorem witness_RegistersHaveTheirWriters :
    after .sample initAtSample (fun t => t.raw != initAtSample.raw) = true ∧
    after .decode (inPhase 0x9#4) (fun t => t.cs != base.cs) = true ∧
    after .pack { inPhase 0xA#4 with cs := idleState } (fun t => t.lastRead != base.lastRead) = true ∧
    after .copyRep { inPhase 0xE#4 with lastRead := idleReport } (fun t => t.lastReported != base.lastReported) = true ∧
    after .copyDest { inPhase 0xD#4 with lastRead := idleReport } (fun t => t.dest != base.dest) = true ∧
    after .chg (inPhase 0xC#4) (fun t => t.first != base.first && t.changedQ != base.changedQ) = true ∧
    after (.init false) { base with first := false, cfg := { Config.reference with initRearmsFirst := true } }
      (fun t => t.first) = true ∧
    after .copyRep { inPhase 0xE#4 with idx := 4, cmdQ := 0b111#3 } (fun t => t.nwritten != base.nwritten) = true ∧
    after .strobeOut (inPhase 0x4#4) (fun t => t.colDir != base.colDir && t.settleCnt != base.settleCnt) = true ∧
    after .strobeLow { inPhase 0x3#4 with colLvl := Vector.replicate 4 true } (fun t => !t.colLvl[(0 : Column)]) = true ∧
    after .releasePu (inPhase 0x8#4) (fun t => t.colPue != base.colPue && t.col != base.col) = true ∧
    after .cfgPins { inPhase 0x2#4 with rowPue := false } (fun t => t.rowPue) = true ∧
    after .saveIe (inPhase 0x1#4) (fun t => t.ieSaved != base.ieSaved) = true ∧
    after .idle { base with cmdValid := true, cmdWord := 0b111#3, idx := 4 } (fun t => t.cmdQ != base.cmdQ && t.idx != 4) =
      true := by decide

theorem witness_OnlyInitTouchesInterruptEnable :
    (∃ t, exec .copyRep (inPhase 0xE#4) = .next t) ∧ Instr.copyRep ≠ .saveIe ∧ Instr.copyRep ≠ .restoreIe ∧
    ∀ d, Instr.copyRep ≠ .init d := ⟨⟨_, rfl⟩, by decide, by decide, by simp⟩

/-- The driver's branch not taken, the port, the reset line, the platform in IDLE, the reader, a press, a move of a switch
without a field, a release of all, a reading. -/
theorem witness_OtherAgentsLeaveTheBlockAlone :
    (∃ t, agentTurn (.invokeIfChanged 0b111#3) base = .next t ∧ base.changedQ = false) ∧
    (∃ t, agentTurn (.drivePort true 0b110#3) base = .next t ∧ t.cmdValid ≠ base.cmdValid ∧ t.cmdWord ≠ base.cmdWord) ∧
    (∃ t, agentTurn (.driveReset true) base = .next t ∧ t.rst ≠ base.rst) ∧
    (∃ t, agentTurn (.platformIe false) base = .next t ∧ t.ie ≠ base.ie) ∧
    (∃ t, agentTurn (.readerRead 4) { base with lastReported := Vector.replicate 5 0xff#8 } = .next t ∧
      t.readerBuf ≠ base.readerBuf) ∧
    (∃ t, agentTurn (.press (.button .btnA)) base = .next t ∧ t.sw ≠ base.sw) ∧
    (∃ t, agentTurn (.moveSwitch ⟨2, 5⟩ true) base = .next t ∧ t.sw ≠ base.sw) ∧
    (∃ t, agentTurn .releaseAll heldAN = .next t ∧ t.sw ≠ heldAN.sw) ∧
    (∃ t, agentTurn (.supply 0b111111#6) base = .next t ∧ t.rowsIn ≠ base.rowsIn) :=
  ⟨⟨_, rfl, rfl⟩, ⟨_, rfl, by decide⟩, ⟨_, rfl, by decide⟩, ⟨_, rfl, by decide⟩, ⟨_, rfl, by decide⟩, ⟨_, rfl, by decide⟩,
    ⟨_, rfl, by decide⟩, ⟨_, rfl, by decide⟩, ⟨_, rfl, by decide⟩⟩

/-- The two phases that write `IE`, another, and a reset edge in the first. -/
theorem witness_IeWriteSignalsDescribeIe :
    (∃ t, blockTurn (inPhase 0x1#4) = .next t ∧ ieWe (inPhase 0x1#4) = true ∧ ieWd (inPhase 0x1#4) = false) ∧
    (∃ t, blockTurn { inPhase 0xB#4 with ieSaved := true } = .next t ∧
      ieWd { inPhase 0xB#4 with ieSaved := true } = true) ∧
    (∃ t, blockTurn initAtSample = .next t ∧ ieWe initAtSample = false) ∧
    (∃ t, blockTurn { inPhase 0x1#4 with rst := true } = .next t ∧ ieWe { inPhase 0x1#4 with rst := true } = false) :=
  ⟨⟨_, rfl, rfl, rfl⟩, ⟨_, rfl, rfl⟩, ⟨_, rfl, rfl⟩, ⟨_, rfl, rfl⟩⟩

theorem witness_DonePulsesAtCommandEnd :
    (∃ t, blockTurn (inPhase 0xC#4) = .next t ∧ (inPhase 0xC#4).rst = false ∧ (inPhase 0xC#4).ph ≠ 0x0#4 ∧
      t.ph = 0x0#4) ∧
    (∃ t, blockTurn afterUpdate = .next t ∧ afterUpdate.ph = 0x0#4 ∧ afterUpdate.done = true) :=
  ⟨⟨_, rfl, rfl, by decide, rfl⟩, ⟨_, rfl, rfl, rfl⟩⟩

/-- A SAMPLE, an INIT and an UPDATE, a reset edge. -/
theorem witness_ParametersNeverChange :
    (∃ t, step initAtSample = .next t ∧ exec .sample initAtSample = .next t) ∧
    (∃ t, exec (.init true) base = .next t) ∧ (∃ t, exec (.update true) base = .next t) ∧
    (∃ t, blockTurn resetHigh = .next t ∧ resetHigh.rst = true) := ⟨⟨_, rfl, rfl⟩, ⟨_, rfl⟩, ⟨_, rfl⟩, ⟨_, rfl, rfl⟩⟩

theorem witness_ReaderStepsOnlyWhileEnabled :
    (∃ rest, { base with agenda := [.readerRead 4] }.agenda = .readerRead 4 :: rest ∧ base.ie = true ∧
      { base with ie := false }.ie = false) ∧
    (BlockInv initAtSample ∧ opOf initAtSample.cmdQ = 0b00#2 ∧ initAtSample.ph ≠ 0x0#4 ∧ initAtSample.ph ≠ 0x1#4) :=
  ⟨⟨_, rfl, rfl, rfl⟩, initAtSample_inv, by decide⟩

/-- T5.12 after clock 6, with a = 0x80 and p = 0x80 copied already; and five reads in a row. -/
theorem witness_ReportReadsTornOrWhole :
    let s := { withReports #v[0x80#8, 0x00#8, 0x00#8, 0x00#8, 0x00#8] #v[0x80#8, 0x80#8, 0x01#8, 0x00#8, 0x00#8] with
      ph := 0xE#4, idx := 1
      agenda := [.readerRead 0, .block, .readerRead 1, .readerRead 2, .readerRead 3, .readerRead 4] }
    s.ph = 0xE#4 ∧ s.idx = 1 ∧ s.ie = true ∧ s.rst = false ∧ s.lastReported[0] = s.lastRead[0] ∧
    s.agenda = [.readerRead 0, .block, .readerRead 1, .readerRead 2, .readerRead 3, .readerRead 4] ∧
    { s with agenda := [.readerRead 0, .readerRead 1, .readerRead 2, .readerRead 3, .readerRead 4] }.agenda =
      [.readerRead 0, .readerRead 1, .readerRead 2, .readerRead 3, .readerRead 4] := by decide

/-- The third clause: in SETTLE of an UPDATE, a block step among the reads, the reads out of order. -/
theorem witness_ReportReadsTornOrWhole_across_block_steps :
    let s := { updateAtSample true with
      ph := 0x5#4, agenda := [.readerRead 3, .block, .readerRead 0, .readerRead 4, .readerRead 2, .readerRead 1] }
    ∃ t, run 6 s = .next t ∧ (∀ m u, m < 6 → run m s = .next u → writesBaseline u = false) ∧
      ∀ i : ByteIdx, ∃ m u rest, m < 6 ∧ run m s = .next u ∧ u.agenda = .readerRead i :: rest ∧ u.ie = true := by
  refine ⟨_, rfl, ?_, ?_⟩
  · intro m u hm h
    interval_cases m <;> injection h with h <;> subst h <;> rfl
  · intro i
    fin_cases i
    · exact ⟨2, _, _, by decide, rfl, rfl, rfl⟩
    · exact ⟨5, _, _, by decide, rfl, rfl, rfl⟩
    · exact ⟨4, _, _, by decide, rfl, rfl, rfl⟩
    · exact ⟨0, _, _, by decide, rfl, rfl, rfl⟩
    · exact ⟨3, _, _, by decide, rfl, rfl, rfl⟩

theorem witness_PollDeliversOnlyChanges :
    let s := base.withProgram [.poll]
    s.ph = 0x0#4 ∧ s.rst = false ∧ s.agenda = Line.turns .poll := by decide

/-- The platform's turn in IDLE and inside a command. -/
theorem witness_InputTurnsSetTheirLevels : base.ph = 0x0#4 ∧ initAtSample.ph ≠ 0x0#4 := by decide

/-- The last clause: a block's clock, a whole command, a reset edge with a command presented. -/
theorem witness_InputTurnsSetTheirLevels_hold :
    (∃ t, step initAtSample = .next t ∧ initAtSample.agenda = []) ∧
    (∃ t, step { base with agenda := [.invoke 0b001#3] } = .next t) ∧
    (∃ t, step resetHigh = .next t ∧ resetHigh.cmdValid = true ∧ resetHigh.rst = true) :=
  ⟨⟨_, rfl, rfl⟩, ⟨_, rfl⟩, ⟨_, rfl, rfl, rfl⟩⟩

/-- A step outside INIT and one inside it; a completed INIT and UPDATE; the end of a command. -/
theorem witness_PullUpsStayOnOutsideInit :
    (∃ t, BlockInv (updateAtSample true) ∧ PullUpsKept (updateAtSample true) ∧ (updateAtSample true).rst = false ∧
      step (updateAtSample true) = .next t) ∧
    (∃ t, BlockInv initAtSample ∧ PullUpsKept initAtSample ∧ initAtSample.rst = false ∧ step initAtSample = .next t) ∧
    (∃ t, exec (.init false) base = .next t) ∧ (∃ t, exec (.update false) base = .next t) ∧
    (BlockInv afterUpdate ∧ afterUpdate.ph = 0x0#4 ∧ afterUpdate.done = true ∧ opOf afterUpdate.cmdQ = 0b01#2) :=
  ⟨⟨_, updateAtSample_inv true, .inl (by decide), rfl, rfl⟩, ⟨_, initAtSample_inv, .inr (by decide), rfl, rfl⟩,
    ⟨_, rfl⟩, ⟨_, rfl⟩, afterUpdate_inv, by decide⟩

/-- One step of a guarded run. -/
theorem guarded_step {k : Nat} {s t : State}
    (h : (readerSteps s = true → ¬ MidBaselineCopy s) ∧ (writesBaseline s = true → k % 5 = 0))
    (hs : step s = .next t) (ht : GuardedFrom (k + (readerSteps s).toNat) t) : GuardedFrom k s :=
  (guardedFrom_iff k s).mpr ⟨h, fun u hu => by rw [hs] at hu; injection hu with hu; subst hu; exact ht⟩

/-- After an UPDATE: BUILDREPORT, five reads out of order with a clock of the block among them, BUILDREPORT again. -/
def guardedReads : State :=
  { afterUpdate with
    agenda := [.invoke 0b011#3, .readerRead 3, .readerRead 0, .block, .readerRead 4, .readerRead 2, .readerRead 1,
      .invoke 0b011#3] }

theorem guardedReads_inv : BlockInv guardedReads := by constructor <;> decide

theorem guardedReads_guarded : GuardedReader guardedReads :=
  guarded_step (by decide) rfl <| guarded_step (by decide) rfl <| guarded_step (by decide) rfl <|
    guarded_step (by decide) rfl <| guarded_step (by decide) rfl <| guarded_step (by decide) rfl <|
    guarded_step (by decide) rfl <| guarded_step (by decide) rfl <| guardedFrom_of_quiet rfl rfl

/-- The guarded reader's first read, right after a whole BUILDREPORT. -/
theorem witness_BaselineIsAHeldReport :
    BlockInv guardedReads ∧ ¬ MidBaselineCopy guardedReads ∧ GuardedReader guardedReads ∧
    ∃ u, run 1 guardedReads = .next u ∧ ¬ MidBaselineCopy u ∧ readerSteps u = true :=
  ⟨guardedReads_inv, by decide, guardedReads_guarded, _, rfl, by decide, rfl⟩

/-- The second clause: five reads, one of each byte. -/
theorem witness_BaselineIsAHeldReport_five_reads :
    BlockInv guardedReads ∧ ¬ MidBaselineCopy guardedReads ∧ GuardedReader guardedReads ∧
    ∃ u t, run 1 guardedReads = .next u ∧ readsIn 1 guardedReads % 5 = 0 ∧ run 6 u = .next t ∧ readsIn 6 u = 5 ∧
      ∀ i : ByteIdx, ∃ m v rest, m < 6 ∧ run m u = .next v ∧ v.agenda = .readerRead i :: rest ∧ v.ie = true := by
  refine ⟨guardedReads_inv, by decide, guardedReads_guarded, _, _, rfl, rfl, rfl, rfl, fun i => ?_⟩
  fin_cases i
  · exact ⟨1, _, _, by decide, rfl, rfl, rfl⟩
  · exact ⟨5, _, _, by decide, rfl, rfl, rfl⟩
  · exact ⟨4, _, _, by decide, rfl, rfl, rfl⟩
  · exact ⟨0, _, _, by decide, rfl, rfl, rfl⟩
  · exact ⟨3, _, _, by decide, rfl, rfl, rfl⟩

/-- One step of a run under the ideal controller, and its end at a refusal. -/
theorem ideal_step {s t : State} (h : s.controller = .ideal ∧ (samplesNext s = true → s.rowPue = true))
    (hs : step s = .next t) (ht : IdealController t) : IdealController s :=
  (throughout_iff _ s).mpr ⟨h, fun u hu => by rw [hs] at hu; injection hu with hu; subst hu; exact ht⟩

theorem ideal_end {s : State} {r : Refusal} (h : s.controller = .ideal ∧ (samplesNext s = true → s.rowPue = true))
    (hs : step s = .refused r) : IdealController s :=
  (throughout_iff _ s).mpr ⟨h, fun u hu => by rw [hs] at hu; cases hu⟩

/-- A SAMPLE, a whole UPDATE, a whole INIT from `AtReset`; and the two ways the premise holds. Each run ends at a
refused command. -/
theorem witness_IdealControllerReadsSwitches :
    (IdealController { initAtSample with agenda := [.block, .invoke 0b010#3] } ∧ initAtSample.rst = false ∧
      initAtSample.ph = 0x6#4) ∧
    (IdealController { heldAN with agenda := [.invoke 0b001#3, .drivePort true 0b010#3, .block, .invoke 0b010#3] } ∧
      heldAN.ph = 0x0#4 ∧ opOf 0b001#3 = 0b01#2) ∧
    (IdealController { State.reset with
        controller := .ideal, agenda := [.invoke 0b000#3, .drivePort true 0b010#3, .block, .invoke 0b010#3] } ∧
      State.reset.rowPue = false ∧ opOf 0b000#3 = 0b00#2) ∧
    (heldAN.controller = .ideal ∧ heldAN.rst = false ∧ heldAN.agenda = [] ∧ heldAN.rowPue = true) ∧
    (AtReset { State.reset with controller := .ideal, agenda := Line.turns .init } ∧
      ∃ w rest, Line.turns .init = .invoke w :: rest ∧ opOf w = 0b00#2) :=
  ⟨⟨ideal_step (by decide) rfl (ideal_end (r := .reentrant) (by decide) rfl), rfl, rfl⟩,
    ⟨ideal_step (by decide) rfl <| ideal_step (by decide) rfl <| ideal_step (by decide) rfl <|
      ideal_end (r := .reentrant) (by decide) rfl, rfl, rfl⟩,
    ⟨ideal_step (by decide) rfl <| ideal_step (by decide) rfl <| ideal_step (by decide) rfl <|
      ideal_end (r := .reentrant) (by decide) rfl, rfl, rfl⟩,
    ⟨rfl, rfl, rfl, rfl⟩, by constructor <;> decide, _, _, rfl, rfl⟩

/-- P1 as a program, a word on the port, and the end of a run. -/
theorem witness_ProgramRunsEnd :
    (State.reset.ph = 0x0#4 ∧ State.reset.rst = false ∧ State.reset.cmdValid = false ∧ State.reset.agenda = [] ∧
      ∃ l ∈ [Line.init, .press [.button .btnA], .poll], ∃ w, AgentStep.invoke w ∈ l.turns) ∧
    (BlockInv { base with agenda := [.drivePort true 0b111#3, .block, .drivePort false 0b111#3] } ∧ base.ph = 0x0#4 ∧
      base.rst = false ∧ 1 ≤ base.cfg.nSettle) ∧
    (∃ t, RunEndsAt (base.withProgram [.changed, .press [.button .btnA]]) t) ∧
    (afterUpdate.ph = 0x0#4 ∧ afterUpdate.cmdValid = false ∧ afterUpdate.agenda = [] ∧ afterUpdate.done = true ∧
      ∀ l ∈ [Line.press [.button .btnA], .releaseAll], ∀ w, AgentStep.invoke w ∉ l.turns) :=
  ⟨⟨rfl, rfl, rfl, rfl, .init, by simp, 0b000#3, by simp [Line.turns]⟩, ⟨by constructor <;> decide, rfl, rfl, by decide⟩,
    ⟨_, runEndsAt_of 1 (by decide) rfl rfl (by decide)⟩, rfl, rfl, rfl, rfl, by simp [Line.turns]⟩

theorem witness_NoReaderNeverReads :
    let s := { base with agenda := [.block, .invoke 0b011#3] }
    NoReader s ∧ ∃ t, run 2 s = .next t := ⟨by simp [NoReader], _, rfl⟩

end Tests
end Sys2Proof
end

section
/-! SUPPORT. What each instruction leaves, and whose turn a step takes: the rules the proofs below cite. -/

namespace Sys2Proof
namespace Machine

/-! ## Words and instructions -/

/-- A command word is the encoding of the command it decodes to (R80, R81). -/
theorem encode_decodeCmd : ∀ w : CmdWord, encode (decodeCmd w) = .cmd3 w := by decide

/-- A command word decodes to one of the four commands (R81). -/
theorem decodeCmd_cases : ∀ w : CmdWord, ∃ d, decodeCmd w = .init d ∨ decodeCmd w = .update d ∨
    decodeCmd w = .changed d ∨ decodeCmd w = .buildReport d := by decide

/-- A phase code is the encoding of the micro-operation it decodes to (R82). -/
theorem encode_of_decodePhase {p : PhaseCode} {i : Instr} (h : decodePhase p = .ok i) : encode i = .ph4 p := by
  have key : ∀ p : PhaseCode, (decodePhase p).toOption.all (fun i => decide (encode i = .ph4 p)) = true := by decide
  simpa [h, Except.toOption] using key p

/-- A control word is the encoding of the instruction it decodes to. -/
theorem encode_of_decode {c : CodeWord} {i : Instr} (h : decode c = .ok i) : encode i = c := by
  cases c with
  | cmd3 w => injection h with h; subst h; exact encode_decodeCmd w
  | ph4 p => exact encode_of_decodePhase h

/-! ## The micro-operations with two outcomes, one equation each -/

section
variable (s : State)

theorem exec_idle : exec .idle s = .next (if s.cmdValid then accept s.cmdWord s else { s with done := false }) := rfl
theorem exec_releasePu : exec .releasePu s = .next (if s.col = 3 then goto phDecode (pullUpColumn s)
    else goto phStrobeLow { pullUpColumn s with col := s.col + 1 }) := rfl
theorem exec_pack : exec .pack s =
    .next (if isInit s.cmdQ then goto phRestoreIe (packReport s) else finish (packReport s)) := rfl
theorem exec_copyDest : exec .copyDest s = .next (if s.idx = 4
    then goto phCopyRep { s with dest := s.dest.set s.idx s.lastRead[s.idx], idx := 0 }
    else goto s.ph { s with dest := s.dest.set s.idx s.lastRead[s.idx], idx := s.idx + 1 }) := rfl
theorem exec_copyRep : exec .copyRep s = .next (if s.idx = 4
    then finish { s with
      lastReported := s.lastReported.set s.idx s.lastRead[s.idx]
      nwritten := writtenCount s.cfg (destSupplied s.cmdQ) }
    else goto s.ph { s with
      lastReported := s.lastReported.set s.idx s.lastRead[s.idx], idx := s.idx + 1 }) := rfl

end

/-! ## The whole commands, one equation and one inversion each -/

section
variable (d : Bool) (s : State)

theorem exec_init : exec (.init d) s = command (cmdWordOf 0b00#2 d)
    (fun t => restoreInterrupts (acquire (configurePins (saveInterrupts t)))) s := rfl
theorem exec_update : exec (.update d) s = command (cmdWordOf 0b01#2 d) acquire s := rfl
theorem exec_changed : exec (.changed d) s = command (cmdWordOf 0b10#2 d) answerChanged s := rfl
theorem exec_buildReport : exec (.buildReport d) s = command (cmdWordOf 0b11#2 d)
    (fun t => countWritten d (buildCopies d t)) s := rfl

end

/-- The raw samples of a scan that starts at `s` (R107, R104). -/
def scanRaw (s : State) : Vector Byte 4 :=
  #v[(reading s 0).setWidth 8, (reading s 1).setWidth 8, (reading s 2).setWidth 8, (reading s 3).setWidth 8]

/-- What INIT and UPDATE both leave of a scan that starts at `s`: four readings in, decoded and packed, every
column idle with its pull-up (R153, R159). -/
def acquired (s : State) : State := { s with
  raw := scanRaw s, cs := decodeState s.cfg (scanRaw s), lastRead := pack (decodeState s.cfg (scanRaw s))
  colDir := Vector.replicate 4 false, colLvl := Vector.replicate 4 false, colPue := Vector.replicate 4 true
  col := 3, settleCnt := min s.cfg.nSettle 1, rowsIn := rowsLeftAfter 4 s, draws := s.draws + 4 }

theorem acquire_eq (s : State) : acquire s = acquired s := by
  rw [acquire, scan_eq]; rfl

/-- A whole UPDATE (R153). -/
theorem update_cases {d : Bool} {s t : State} (h : exec (.update d) s = .next t) :
    s.ph = phIdle ∧ t = { acquired s with cmdQ := cmdWordOf 0b01#2 d, ph := phIdle, done := true } := by
  rw [exec_update] at h
  obtain ⟨hp, rfl⟩ := command_cases h
  exact ⟨hp, by rw [acquire_eq]; rfl⟩

/-- A whole INIT (R159): `IE` is restored. -/
theorem init_cases {d : Bool} {s t : State} (h : exec (.init d) s = .next t) :
    s.ph = phIdle ∧ t = { acquired { s with rowPue := true } with
      ieSaved := s.ie, first := firstAfterInit s.cfg s.first
      cmdQ := cmdWordOf 0b00#2 d, ph := phIdle, done := true } := by
  rw [exec_init] at h
  obtain ⟨hp, rfl⟩ := command_cases h
  exact ⟨hp, by rw [acquire_eq]; rfl⟩

/-- A whole CHANGED (R154). -/
theorem changed_cases {d : Bool} {s t : State} (h : exec (.changed d) s = .next t) :
    s.ph = phIdle ∧ t = { s with
      changedQ := changedAnswer s.first s.lastRead s.lastReported, first := false
      cmdQ := cmdWordOf 0b10#2 d, ph := phIdle, done := true } := by
  rw [exec_changed] at h
  obtain ⟨hp, rfl⟩ := command_cases h
  exact ⟨hp, rfl⟩

/-- A whole BUILDREPORT (R156). -/
theorem buildReport_cases {d : Bool} {s t : State} (h : exec (.buildReport d) s = .next t) :
    s.ph = phIdle ∧ t = { s with
      dest := if d then s.lastRead else s.dest, lastReported := s.lastRead, idx := 4
      nwritten := writtenCount s.cfg d, cmdQ := cmdWordOf 0b11#2 d, ph := phIdle, done := true } := by
  rw [exec_buildReport] at h
  obtain ⟨hp, rfl⟩ := command_cases h
  exact ⟨hp, by rw [buildCopies_eq]; rfl⟩

/-! ## Whose turn a step takes (00_scope.md R10) -/

/-- The state with its next turn taken off the agenda. -/
def turnTaken (s : State) : State := { s with agenda := s.agenda.tail }

/-- The next turn is the block's. -/
def BlockNext (s : State) : Prop := s.agenda = [] ∨ ∃ rest, s.agenda = .block :: rest

/-- The next turn calls the whole command of a word. -/
def CallNext (w : CmdWord) (s : State) : Prop :=
  ∃ rest, s.agenda = .invoke w :: rest ∨ (s.agenda = .invokeIfChanged w :: rest ∧ s.changedQ = true)

/-- A turn that does not move the block: not the block's own, no call, and no branch taken. -/
structure BlockRests (a : AgentStep) (s : State) : Prop where
  notBlock : a ≠ .block
  notCall : ∀ w, a ≠ .invoke w
  branchNotTaken : ∀ w, a = .invokeIfChanged w → s.changedQ = false

/-- Everything a step can be: a reset edge, a micro-operation, a whole command, a turn of another agent. -/
inductive Turn (s t : State) : Prop where
  | reset (hr : s.rst = true) (hn : BlockNext s ∨ ∃ w, CallNext w s) (ht : t = resetEdge (turnTaken s))
  | phase (i : Instr) (hr : s.rst = false) (hn : BlockNext s) (hi : decodePhase s.ph = .ok i)
      (ht : exec i (turnTaken s) = .next t)
  | call (w : CmdWord) (hr : s.rst = false) (hn : CallNext w s) (ht : exec (decodeCmd w) (turnTaken s) = .next t)
  | other (a : AgentStep) (rest : List AgentStep) (ha : s.agenda = a :: rest) (hb : BlockRests a (turnTaken s))
      (ht : agentTurn a (turnTaken s) = .next t)

theorem turn_of_blockTurn {s t : State} (hn : BlockNext s) (h : blockTurn (turnTaken s) = .next t) : Turn s t := by
  rcases blockTurn_cases h with ⟨hr, ht⟩ | ⟨hr, i, hi, ht⟩
  · exact .reset hr (.inl hn) ht
  · exact .phase i hr hn hi ht

theorem turn_of_invokeTurn {w : CmdWord} {s t : State} (hn : CallNext w s)
    (h : invokeTurn w (turnTaken s) = .next t) : Turn s t := by
  rcases invokeTurn_cases h with ⟨hr, ht⟩ | ⟨hr, ht⟩
  · exact .reset hr (.inr ⟨w, hn⟩) ht
  · exact .call w hr hn ht

theorem turn_of_step {s t : State} (h : step s = .next t) : Turn s t := by
  rcases step_cases h with ⟨ha, hb⟩ | ⟨a, rest, ha, hb⟩
  · have hs : turnTaken s = s := by rw [turnTaken, ha, List.tail_nil, ← ha]
    exact turn_of_blockTurn (.inl ha) (hs.symm ▸ hb)
  · have hs : { s with agenda := rest } = turnTaken s := by rw [turnTaken, ha, List.tail_cons]
    rw [hs] at hb
    by_cases hblock : a = .block
    · subst hblock; exact turn_of_blockTurn (.inr ⟨rest, ha⟩) hb
    by_cases hcall : ∃ w, a = .invoke w
    · obtain ⟨w, rfl⟩ := hcall; exact turn_of_invokeTurn ⟨rest, .inl ha⟩ hb
    by_cases hbranch : ∃ w, a = .invokeIfChanged w ∧ s.changedQ = true
    · obtain ⟨w, rfl, hq⟩ := hbranch
      exact turn_of_invokeTurn ⟨rest, .inr ⟨ha, hq⟩⟩ ((if_pos hq).symm.trans hb)
    · refine .other a rest ha ⟨hblock, fun w e => hcall ⟨w, e⟩, fun w e => ?_⟩ hb
      exact Bool.eq_false_iff.mpr fun hq => hbranch ⟨w, e, hq⟩

/-- A turn that does not move the block changes inputs and other agents' state only, and `IE` in IDLE only. -/
theorem agentTurn_frame {a : AgentStep} {s t : State} (hb : BlockRests a s) (h : agentTurn a s = .next t) :
    t = { s with cmdValid := t.cmdValid, cmdWord := t.cmdWord, rst := t.rst, ie := t.ie, sw := t.sw
                 rowsIn := t.rowsIn, readerBuf := t.readerBuf } ∧
    (t.ie = s.ie ∨ s.ph = phIdle) := by
  cases a
  case block => exact absurd rfl hb.notBlock
  case invoke w => exact absurd rfl (hb.notCall w)
  case invokeIfChanged w =>
    rw [agentTurn, hb.branchNotTaken w rfl] at h
    injection h with h; subst h; exact ⟨rfl, .inl rfl⟩
  case platformIe v =>
    injection h with h; subst h
    split
    · next hp => exact ⟨rfl, .inr hp⟩
    · exact ⟨rfl, .inl rfl⟩
  case readerRead i =>
    injection h with h; subst h
    unfold readerTurn; split <;> exact ⟨rfl, .inl rfl⟩
  all_goals (injection h with h; subst h; exact ⟨rfl, .inl rfl⟩)

end Machine
end Sys2Proof
end

section
/-! SUPPORT. The invariant, taken apart by the registers it speaks of, and kept by every step. -/

namespace Sys2Proof
namespace Machine

/-! ## Legal reports -/

/-- Overriding an axis leaves legal axes (R123). -/
theorem overrideAxis_legal (cs : ControllerState) (d : Dir) (h : AxisLegal cs.x ∧ AxisLegal cs.y) :
    AxisLegal (overrideAxis cs d).x ∧ AxisLegal (overrideAxis cs d).y := by
  cases d
  case north => exact ⟨h.1, .inl rfl⟩
  case south => exact ⟨h.1, .inr (.inr rfl)⟩
  case east => exact ⟨.inr (.inr rfl), h.2⟩
  case west => exact ⟨.inl rfl, h.2⟩

theorem foldl_testDir_legal (cfg : Config) (raw : Vector Byte 4) (ds : List Dir) (cs : ControllerState)
    (h : AxisLegal cs.x ∧ AxisLegal cs.y) :
    AxisLegal (ds.foldl (testDir cfg raw) cs).x ∧ AxisLegal (ds.foldl (testDir cfg raw) cs).y := by
  induction ds generalizing cs with
  | nil => exact h
  | cons d ds ih =>
    refine ih _ ?_
    unfold testDir
    split
    · exact overrideAxis_legal cs d h
    · exact h

/-- DECODE leaves axis codes only (R73, R129). -/
theorem decodeState_legal (cfg : Config) (raw : Vector Byte 4) :
    AxisLegal (decodeState cfg raw).x ∧ AxisLegal (decodeState cfg raw).y := by
  refine foldl_testDir_legal cfg raw _ _ ?_
  rw [foldl_testButton_x, foldl_testButton_y]
  exact ⟨.inr (.inl rfl), .inr (.inl rfl)⟩

/-- PACK of legal axes is a legal report (R144). -/
theorem pack_legal {cs : ControllerState} (h : AxisLegal cs.x ∧ AxisLegal cs.y) : ReportLegal (pack cs) :=
  ⟨h.1, h.2, bitAt_zero_high _⟩

/-- The report of no input that reset leaves. -/
theorem zeroReport_legal : ReportLegal (Vector.replicate 5 0x00#8) := by decide

/-- What holds of a byte of two reports holds of it after one byte is copied from the second to the first. -/
theorem byte_copied {P : Byte → Prop} {a b : Report} (i j : ByteIdx) (ha : P a[j]) (hb : P b[j]) :
    P (a.set i b[i])[j] := by
  rw [byte_set]
  split
  · next h => subst h; exact hb
  · exact ha

/-- A legal report with one byte copied from another is legal (R35(d), R35(e)). -/
theorem set_legal {a b : Report} (ha : ReportLegal a) (hb : ReportLegal b) (i : ByteIdx) :
    ReportLegal (a.set i b[i]) := by
  obtain ⟨hax, hay, haz⟩ := ha
  obtain ⟨hbx, hby, hbz⟩ := hb
  exact ⟨byte_copied i 0 hax hbx, byte_copied i 1 hay hby,
    byte_copied (P := fun v => v &&& 0xfe#8 = 0#8) i 4 haz hbz⟩

/-! ## The pins' part of the invariant (R109) -/

/-- The fields of `BlockInv` about the pads, in phase `p` of the command `w`. -/
structure PinsInv (p : PhaseCode) (w : CmdWord) (col : Column) (dir lvl pue : Vector Bool 4) : Prop where
  oneColumn : ∀ c : Column, dir[c] = true ↔ (c = col ∧ driving p = true)
  levelsLow : ∀ c : Column, lvl[c] = false
  pullUps : (∀ c : Column, pue[c] = true) ∨
    (if scanning p then ∀ c : Column, pue[c] = true ↔ c < col
     else scanned p = false ∧ ∀ c : Column, pue[c] = false)
  initFloats : opOf w = 0b00#2 → scanning p = true → ∀ c : Column, pue[c] = true ↔ c < col
  lastColumn : scanned p = true → col = 3

namespace PinsInv

variable {p q : PhaseCode} {w w' : CmdWord} {col col' : Column} {dir lvl pue : Vector Bool 4}

/-- Where no column is driven every column is an input. -/
theorem inputs (h : PinsInv p w col dir lvl pue) (hd : driving p = false) (c : Column) : dir[c] = false := by
  have := h.oneColumn c
  rw [hd] at this
  simpa using this

/-- A phase of the same kind. -/
theorem move (h : PinsInv p w col dir lvl pue) (hd : driving q = driving p) (hs : scanning q = scanning p)
    (hn : scanned q = scanned p) : PinsInv q w col dir lvl pue where
  oneColumn := hd ▸ h.oneColumn
  levelsLow := h.levelsLow
  pullUps := hs ▸ hn ▸ h.pullUps
  initFloats := hs ▸ h.initFloats
  lastColumn := hn ▸ h.lastColumn

/-- Outside a scan and what follows it, the command and the column do not matter. -/
theorem relabel (h : PinsInv p w col dir lvl pue) (hd : driving p = false) (hs : scanning p = false)
    (hn : scanned p = false) : PinsInv p w' col' dir lvl pue where
  oneColumn c := by rw [h.inputs hd c, hd]; simp
  levelsLow := h.levelsLow
  pullUps := by simpa [hs] using h.pullUps
  initFloats _ := by simp [hs]
  lastColumn := by simp [hn]

/-- STROBE_LOW (R101). -/
theorem assertLow (h : PinsInv phStrobeLow w col dir lvl pue) :
    PinsInv phStrobeOut w col dir (lvl.set col false) pue :=
  { h.move (q := phStrobeOut) rfl rfl rfl with
    levelsLow := fun c => by rw [colBit_set]; split <;> simp [h.levelsLow c] }

/-- STROBE_OUT (R102). -/
theorem drive (h : PinsInv phStrobeOut w col dir lvl pue) : PinsInv phSettle w col (dir.set col true) lvl pue where
  oneColumn c := by rw [colBit_set, h.inputs rfl c]; simp [show driving phSettle = true from rfl]
  levelsLow := h.levelsLow
  pullUps := h.pullUps
  initFloats := h.initFloats
  lastColumn := h.lastColumn

/-- RELEASE_IN (R105). -/
theorem release (h : PinsInv phReleaseIn w col dir lvl pue) :
    PinsInv phReleasePu w col (dir.set col false) lvl pue where
  oneColumn c := by
    have hc : dir[c] = true ↔ c = col := by simpa [show driving phReleaseIn = true from rfl] using h.oneColumn c
    rw [colBit_set]
    split <;> simp_all [show driving phReleasePu = false from rfl]
  levelsLow := h.levelsLow
  pullUps := h.pullUps
  initFloats := h.initFloats
  lastColumn := h.lastColumn

/-- The pull-ups once the current column has its own (R106): those of the columns up to it. -/
theorem pulledUp (h : ∀ c : Column, pue[c] = true ↔ c < col) (c : Column) :
    (pue.set col true)[c] = true ↔ c ≤ col := by
  rw [colBit_set, le_iff_eq_or_lt, ← h c]; split <;> simp_all

theorem pulledUp_all (h : ∀ c : Column, pue[c] = true) (c : Column) : (pue.set col true)[c] = true := by
  rw [colBit_set, h c]; simp

/-- Below the last column, the next one is one higher. -/
theorem le_iff_lt_succ_col {c col : Column} (hc : col ≠ 3) : c ≤ col ↔ c < col + 1 := by
  revert c col; decide

/-- RELEASE_PU of a column below the last (R106). -/
theorem nextColumn (h : PinsInv phReleasePu w col dir lvl pue) (hc : col ≠ 3) :
    PinsInv phStrobeLow w (col + 1) dir lvl (pue.set col true) where
  oneColumn c := by rw [h.inputs rfl c]; simp [show driving phStrobeLow = false from rfl]
  levelsLow := h.levelsLow
  pullUps := h.pullUps.imp pulledUp_all fun hp c => (pulledUp hp c).trans (le_iff_lt_succ_col hc)
  initFloats hw _ c := (pulledUp (h.initFloats hw rfl) c).trans (le_iff_lt_succ_col hc)
  lastColumn := nofun

/-- RELEASE_PU of column 3 ends the scan, every pull-up on (R106). -/
theorem endScan (h : PinsInv phReleasePu w 3 dir lvl pue) :
    PinsInv phDecode w 3 dir lvl (pue.set (3 : Column) true) where
  oneColumn := h.oneColumn
  levelsLow := h.levelsLow
  pullUps := .inl (h.pullUps.elim pulledUp_all fun hp c => (pulledUp hp c).mpr (Fin.le_last c))
  initFloats _ := nofun
  lastColumn _ := rfl

/-- An UPDATE's scan starts with the pull-ups that IDLE leaves (R150). -/
theorem startScan (h : PinsInv phIdle w col dir lvl pue) (hw : opOf w' ≠ 0b00#2) :
    PinsInv phStrobeLow w' 0 dir lvl pue where
  oneColumn c := by rw [h.inputs rfl c]; simp [show driving phStrobeLow = false from rfl]
  levelsLow := h.levelsLow
  pullUps := h.pullUps.imp_right fun hp c => by simp [hp.2 c]
  initFloats h0 := absurd h0 hw
  lastColumn := nofun

/-- INIT's scan starts with every pull-up off (R100). -/
theorem configured (h : PinsInv p w col dir lvl pue) :
    PinsInv phStrobeLow w 0 (Vector.replicate 4 false) lvl (Vector.replicate 4 false) where
  oneColumn c := by simp [show driving phStrobeLow = false from rfl]
  levelsLow := h.levelsLow
  pullUps := .inr fun c => by simp
  initFloats _ _ c := by simp
  lastColumn := nofun

end PinsInv

/-! ## The reports' part of the invariant (R35(d), R35(e), R157, R158) -/

/-- The fields of `BlockInv` about the report buffers, in phase `p` of the command `w`. -/
structure ReportsInv (p : PhaseCode) (w : CmdWord) (idx : ByteIdx) (cs : ControllerState)
    (lastRead lastReported dest : Report) : Prop where
  lastReadLegal : ReportLegal lastRead
  lastReportedLegal : ReportLegal lastReported
  decoded : p = phPack → AxisLegal cs.x ∧ AxisLegal cs.y
  destCopied : p = phCopyDest → ∀ i : ByteIdx, i < idx → dest[i] = lastRead[i]
  destDone : p = phCopyRep → destSupplied w = true → dest = lastRead
  repCopied : p = phCopyRep → ∀ i : ByteIdx, i < idx → lastReported[i] = lastRead[i]

/-- The phases in which the buffers need only be legal: no PACK and no copy is under way. -/
abbrev ReportsAtRest (p : PhaseCode) : Prop := p ≠ phPack ∧ p ≠ phCopyDest ∧ p ≠ phCopyRep

/-- The bytes below the next index, once the byte at this one is copied. -/
theorem copied_upTo {a b : Report} {idx : ByteIdx} (h : ∀ i, i < idx → a[i] = b[i]) (i : ByteIdx) (hi : i ≤ idx) :
    (a.set idx b[idx])[i] = b[i] := by
  rw [byte_set]
  split
  · next e => rw [e]
  · next e => exact h i (lt_of_le_of_ne hi e)

/-- The fifth byte completes a copy. -/
theorem copied_all {a b : Report} {idx : ByteIdx} (h : ∀ i, i < idx → a[i] = b[i]) (h4 : idx = 4) :
    a.set idx b[idx] = b := by
  apply Vector.ext
  intro i hi
  exact copied_upTo h ⟨i, hi⟩ (h4 ▸ Fin.le_last _)

/-- Below the last index, the next one is one higher. -/
theorem le_of_lt_succ_idx {i idx : ByteIdx} (h4 : idx ≠ 4) (hi : i < idx + 1) : i ≤ idx := by
  revert i idx; decide

namespace ReportsInv

variable {p q : PhaseCode} {w w' : CmdWord} {idx idx' : ByteIdx} {cs cs' : ControllerState}
  {lastRead lastReported dest : Report}

/-- Where neither PACK nor a copy is under way two legal reports are enough. -/
theorem atRest (hp : ReportsAtRest p) (hr : ReportLegal lastRead) (hq : ReportLegal lastReported) :
    ReportsInv p w idx cs lastRead lastReported dest where
  lastReadLegal := hr
  lastReportedLegal := hq
  decoded h := absurd h hp.1
  destCopied h := absurd h hp.2.1
  destDone h := absurd h hp.2.2
  repCopied h := absurd h hp.2.2

/-- DECODE hands PACK a decoded state (R22). -/
theorem toPack (h : ReportsInv p w idx cs lastRead lastReported dest) (hcs : AxisLegal cs'.x ∧ AxisLegal cs'.y) :
    ReportsInv phPack w idx cs' lastRead lastReported dest where
  lastReadLegal := h.lastReadLegal
  lastReportedLegal := h.lastReportedLegal
  decoded _ := hcs
  destCopied := nofun
  destDone := nofun
  repCopied := nofun

/-- A copy to the destination starts with nothing copied (R150). -/
theorem startDest (h : ReportsInv p w idx cs lastRead lastReported dest) :
    ReportsInv phCopyDest w' 0 cs lastRead lastReported dest where
  lastReadLegal := h.lastReadLegal
  lastReportedLegal := h.lastReportedLegal
  decoded := nofun
  destCopied _ i hi := absurd hi (Fin.not_lt_zero i)
  destDone := nofun
  repCopied := nofun

/-- A baseline copy starts with nothing copied, and with the destination done if there is one (R150, R157). -/
theorem startRep (h : ReportsInv p w idx cs lastRead lastReported dest) {dest' : Report}
    (hd : destSupplied w' = true → dest' = lastRead) :
    ReportsInv phCopyRep w' 0 cs lastRead lastReported dest' where
  lastReadLegal := h.lastReadLegal
  lastReportedLegal := h.lastReportedLegal
  decoded := nofun
  destCopied := nofun
  destDone _ := hd
  repCopied _ i hi := absurd hi (Fin.not_lt_zero i)

/-- COPY_DEST below the last index (R157). -/
theorem nextDest (h : ReportsInv phCopyDest w idx cs lastRead lastReported dest) (h4 : idx ≠ 4) :
    ReportsInv phCopyDest w (idx + 1) cs lastRead lastReported (dest.set idx lastRead[idx]) :=
  { h with
    destCopied := fun _ i hi => copied_upTo (h.destCopied rfl) i (le_of_lt_succ_idx h4 hi)
    destDone := nofun
    repCopied := nofun }

/-- COPY_REP below the last index (R158). -/
theorem nextRep (h : ReportsInv phCopyRep w idx cs lastRead lastReported dest) (h4 : idx ≠ 4) :
    ReportsInv phCopyRep w (idx + 1) cs lastRead (lastReported.set idx lastRead[idx]) dest :=
  { h with
    lastReportedLegal := set_legal h.lastReportedLegal h.lastReadLegal idx
    destCopied := nofun
    repCopied := fun _ i hi => copied_upTo (h.repCopied rfl) i (le_of_lt_succ_idx h4 hi) }

end ReportsInv

/-! ## The invariant from its parts -/

namespace BlockInv

variable {s u : State} {p q : PhaseCode}

theorem pins (h : BlockInv s) (hp : s.ph = p) : PinsInv p s.cmdQ s.col s.colDir s.colLvl s.colPue := by
  subst hp
  exact ⟨h.oneColumn, h.levelsLow, h.pullUps, h.initFloats, h.lastColumn⟩

theorem reports (h : BlockInv s) (hp : s.ph = p) :
    ReportsInv p s.cmdQ s.idx s.cs s.lastRead s.lastReported s.dest := by
  subst hp
  exact ⟨h.lastReadLegal, h.lastReportedLegal, h.decoded, h.destCopied, h.destDone, h.repCopied⟩

theorem reportsAtRest (h : BlockInv s) (hq : ReportsAtRest q) {w : CmdWord} {idx : ByteIdx} {cs : ControllerState}
    {dest : Report} : ReportsInv q w idx cs s.lastRead s.lastReported dest :=
  .atRest hq h.lastReadLegal h.lastReportedLegal

/-- The next phase belongs to the same command (R82). -/
theorem fits (h : BlockInv s) (hp : s.ph = p) (hpq : ∀ w, phaseFits p w = true → phaseFits q w = true) :
    phaseFits q s.cmdQ = true :=
  hpq _ (hp ▸ h.phaseOfCommand)

/-- Past SAVE_IE the interrupt enable of INIT is 0, and stays so in the next phase. -/
theorem masked (h : BlockInv s) (hp : s.ph = p) (hw : p ≠ phIdle ∧ p ≠ phSaveIe) :
    opOf s.cmdQ = 0b00#2 → q ≠ phIdle → q ≠ phSaveIe → s.ie = false :=
  fun h0 _ _ => h.maskedInInit h0 (hp ▸ hw.1) (hp ▸ hw.2)

end BlockInv

/-- A phase of a command meets the invariant by its parts; `done` is low there. -/
theorem blockInv_goto {u : State} {q : PhaseCode}
    (hpins : PinsInv q u.cmdQ u.col u.colDir u.colLvl u.colPue)
    (hrep : ReportsInv q u.cmdQ u.idx u.cs u.lastRead u.lastReported u.dest)
    (hfit : phaseFits q u.cmdQ = true) (hie : opOf u.cmdQ = 0b00#2 → q ≠ phIdle → q ≠ phSaveIe → u.ie = false)
    (hset : u.settleCnt ≤ u.cfg.nSettle) : BlockInv (goto q u) where
  oneColumn := hpins.oneColumn
  levelsLow := hpins.levelsLow
  pullUps := hpins.pullUps
  initFloats := hpins.initFloats
  released := nofun
  lastReadLegal := hrep.lastReadLegal
  lastReportedLegal := hrep.lastReportedLegal
  decoded := hrep.decoded
  phaseOfCommand := hfit
  lastColumn := hpins.lastColumn
  maskedInInit := hie
  settleBound := hset
  destCopied := hrep.destCopied
  destDone := hrep.destDone
  repCopied := hrep.repCopied

/-- IDLE meets the invariant with every column an input, the levels low, the pull-ups all on, or all off where no
scan has just ended, legal reports and a bounded counter. -/
theorem blockInv_of_idle {u : State} (hp : u.ph = phIdle) (hdir : ∀ c : Column, u.colDir[c] = false)
    (hlvl : ∀ c : Column, u.colLvl[c] = false)
    (hpue : (∀ c : Column, u.colPue[c] = true) ∨
      ((u.done = true → opOf u.cmdQ ≠ 0b00#2 ∧ opOf u.cmdQ ≠ 0b01#2) ∧ ∀ c : Column, u.colPue[c] = false))
    (hr : ReportLegal u.lastRead) (hq : ReportLegal u.lastReported) (hset : u.settleCnt ≤ u.cfg.nSettle) :
    BlockInv u where
  oneColumn c := by rw [hp, hdir c]; simp [show driving phIdle = false from rfl]
  levelsLow := hlvl
  pullUps := by rw [hp]; exact hpue.imp_right fun h => ⟨rfl, h.2⟩
  initFloats _ hs := by rw [hp] at hs; exact absurd hs nofun
  released _ hd hw := hpue.elim id fun h => absurd (h.1 hd) (by tauto)
  lastReadLegal := hr
  lastReportedLegal := hq
  decoded h := by rw [hp] at h; exact absurd h nofun
  phaseOfCommand := by rw [hp]; rfl
  lastColumn h := by rw [hp] at h; exact absurd h nofun
  maskedInInit _ h := absurd hp h
  settleBound := hset
  destCopied h := by rw [hp] at h; exact absurd h nofun
  destDone h := by rw [hp] at h; exact absurd h nofun
  repCopied h := by rw [hp] at h; exact absurd h nofun

/-- The end of a command meets the invariant: after a scan every pull-up is on, and no other command ends with INIT's
or UPDATE's word. -/
theorem blockInv_finish {u : State} {p : PhaseCode} (hpins : PinsInv p u.cmdQ u.col u.colDir u.colLvl u.colPue)
    (hd : driving p = false) (hs : scanning p = false) (hfit : phaseFits p u.cmdQ = true)
    (hend : ∀ w, phaseFits p w = true → scanned p = true ∨ (opOf w ≠ 0b00#2 ∧ opOf w ≠ 0b01#2))
    (hr : ReportLegal u.lastRead) (hq : ReportLegal u.lastReported) (hset : u.settleCnt ≤ u.cfg.nSettle) :
    BlockInv (finish u) := by
  refine blockInv_of_idle rfl (hpins.inputs hd) hpins.levelsLow ?_ hr hq hset
  rcases hpins.pullUps with hall | hoff
  · exact .inl hall
  · rw [hs] at hoff
    obtain ⟨hn, hoff⟩ := hoff
    exact .inr ⟨fun _ => (hend _ hfit).resolve_left (by simp [hn]), hoff⟩

/-- The registers at their reset values meet the invariant (R36). -/
theorem blockInv_of_atReset {s : State} (h : AtReset s) (hd : s.done = false) : BlockInv s := by
  refine blockInv_of_idle h.ph ?_ ?_ (.inr ⟨?_, ?_⟩) ?_ ?_ ?_
  · simp [h.colDir]
  · simp [h.colLvl]
  · simp [hd]
  · simp [h.colPue]
  · rw [h.lastRead]; exact zeroReport_legal
  · rw [h.lastReported]; exact zeroReport_legal
  · simp [h.settleCnt]

theorem reset_atReset : AtReset State.reset := by constructor <;> rfl

/-- A reset edge loads the reset values (R190). -/
theorem resetEdge_atReset (s : State) : AtReset (resetEdge s) := by constructor <;> rfl

/-! ## Each micro-operation keeps the invariant -/

namespace BlockInv

variable {s : State}

theorem saveIe (h : BlockInv s) (hp : s.ph = phSaveIe) : BlockInv (goto phCfgPins (saveInterrupts s)) :=
  blockInv_goto ((h.pins hp).move rfl rfl rfl) (h.reportsAtRest (by decide)) (h.fits hp (by decide))
    (fun _ _ _ => rfl) h.settleBound

theorem cfgPins (h : BlockInv s) (hp : s.ph = phCfgPins) : BlockInv (goto phStrobeLow (configurePins s)) :=
  blockInv_goto (h.pins hp).configured (h.reportsAtRest (by decide)) (h.fits hp (by decide)) (h.masked hp (by decide))
    h.settleBound

theorem strobeLow (h : BlockInv s) (hp : s.ph = phStrobeLow) : BlockInv (goto phStrobeOut (assertLow s)) :=
  blockInv_goto (h.pins hp).assertLow (h.reportsAtRest (by decide)) (h.fits hp (by decide)) (h.masked hp (by decide))
    h.settleBound

theorem strobeOut (h : BlockInv s) (hp : s.ph = phStrobeOut) : BlockInv (goto phSettle (driveColumn s)) :=
  blockInv_goto (h.pins hp).drive (h.reportsAtRest (by decide)) (h.fits hp (by decide)) (h.masked hp (by decide))
    le_rfl

/-- A tick of the hold does not raise the counter (R103). -/
theorem settleTick_le (n : Nat) : settleTick n ≤ n := by
  unfold settleTick; split <;> omega

theorem settle (h : BlockInv s) (hp : s.ph = phSettle) :
    BlockInv (goto (if s.settleCnt > 1 then s.ph else phSample) { s with settleCnt := settleTick s.settleCnt }) := by
  have hset : settleTick s.settleCnt ≤ s.cfg.nSettle := (settleTick_le _).trans h.settleBound
  split
  · rw [hp]
    exact blockInv_goto (h.pins hp) (h.reportsAtRest (by decide)) (h.fits hp (by decide)) (h.masked hp (by decide)) hset
  · exact blockInv_goto ((h.pins hp).move rfl rfl rfl) (h.reportsAtRest (by decide)) (h.fits hp (by decide))
      (h.masked hp (by decide)) hset

theorem sample (h : BlockInv s) (hp : s.ph = phSample) : BlockInv (goto phReleaseIn (sampleRows s)) :=
  blockInv_goto ((h.pins hp).move rfl rfl rfl) (h.reportsAtRest (by decide)) (h.fits hp (by decide))
    (h.masked hp (by decide)) h.settleBound

theorem releaseIn (h : BlockInv s) (hp : s.ph = phReleaseIn) : BlockInv (goto phReleasePu (releaseColumn s)) :=
  blockInv_goto (h.pins hp).release (h.reportsAtRest (by decide)) (h.fits hp (by decide)) (h.masked hp (by decide))
    h.settleBound

theorem releasePu (h : BlockInv s) (hp : s.ph = phReleasePu) : BlockInv (if s.col = 3
    then goto phDecode (pullUpColumn s) else goto phStrobeLow { pullUpColumn s with col := s.col + 1 }) := by
  split
  · next hc =>
    refine blockInv_goto ?_ (h.reportsAtRest (by decide)) (h.fits hp (by decide)) (h.masked hp (by decide))
      h.settleBound
    have hpins := h.pins hp
    rw [hc] at hpins
    simpa [hc] using hpins.endScan
  · next hc =>
    exact blockInv_goto ((h.pins hp).nextColumn hc) (h.reportsAtRest (by decide)) (h.fits hp (by decide))
      (h.masked hp (by decide)) h.settleBound

theorem decode (h : BlockInv s) (hp : s.ph = phDecode) : BlockInv (goto phPack (decodeRaw s)) :=
  blockInv_goto ((h.pins hp).move rfl rfl rfl) ((h.reports hp).toPack (decodeState_legal s.cfg s.raw))
    (h.fits hp (by decide)) (h.masked hp (by decide)) h.settleBound

theorem pack (h : BlockInv s) (hp : s.ph = phPack) :
    BlockInv (if isInit s.cmdQ then goto phRestoreIe (packReport s) else finish (packReport s)) := by
  have hr : ReportLegal (packReport s).lastRead := pack_legal (h.decoded hp)
  split
  · next hi =>
    have fits : ∀ w, isInit w = true → phaseFits phRestoreIe w = true := by decide
    exact blockInv_goto ((h.pins hp).move rfl rfl rfl) (.atRest (by decide) hr h.lastReportedLegal)
      (fits _ hi) (h.masked hp (by decide)) h.settleBound
  · exact blockInv_finish (h.pins hp) rfl rfl (h.fits hp fun _ => id) (by decide) hr h.lastReportedLegal h.settleBound

theorem restoreIe (h : BlockInv s) (hp : s.ph = phRestoreIe) : BlockInv (finish (restoreInterrupts s)) :=
  blockInv_finish (h.pins hp) rfl rfl (h.fits hp fun _ => id) (by decide) h.lastReadLegal h.lastReportedLegal
    h.settleBound

theorem chg (h : BlockInv s) (hp : s.ph = phChg) : BlockInv (finish (answerChanged s)) :=
  blockInv_finish (h.pins hp) rfl rfl (h.fits hp fun _ => id) (by decide) h.lastReadLegal h.lastReportedLegal
    h.settleBound

theorem copyDest (h : BlockInv s) (hp : s.ph = phCopyDest) : BlockInv (if s.idx = 4
    then goto phCopyRep { s with dest := s.dest.set s.idx s.lastRead[s.idx], idx := 0 }
    else goto s.ph { s with dest := s.dest.set s.idx s.lastRead[s.idx], idx := s.idx + 1 }) := by
  split
  · next h4 =>
    exact blockInv_goto ((h.pins hp).move rfl rfl rfl)
      ((h.reports hp).startRep fun _ => copied_all (h.destCopied hp) h4) (h.fits hp (by decide))
      (h.masked hp (by decide)) h.settleBound
  · next h4 =>
    rw [hp]
    exact blockInv_goto (h.pins hp) ((h.reports hp).nextDest h4) (h.fits hp fun _ => id) (h.masked hp (by decide))
      h.settleBound

theorem copyRep (h : BlockInv s) (hp : s.ph = phCopyRep) : BlockInv (if s.idx = 4
    then finish { s with
      lastReported := s.lastReported.set s.idx s.lastRead[s.idx]
      nwritten := writtenCount s.cfg (destSupplied s.cmdQ) }
    else goto s.ph { s with lastReported := s.lastReported.set s.idx s.lastRead[s.idx], idx := s.idx + 1 }) := by
  split
  · exact blockInv_finish (h.pins hp) rfl rfl (h.fits hp fun _ => id) (by decide) h.lastReadLegal
      (set_legal h.lastReportedLegal h.lastReadLegal _) h.settleBound
  · next h4 =>
    rw [hp]
    exact blockInv_goto (h.pins hp) ((h.reports hp).nextRep h4) (h.fits hp fun _ => id) (h.masked hp (by decide))
      h.settleBound

/-- The acceptance of a word in IDLE (R150). -/
theorem accept (h : BlockInv s) (hp : s.ph = phIdle) (w : CmdWord) : BlockInv (accept w s) := by
  have hop : opOf w = 0b00#2 ∨ opOf w = 0b01#2 ∨ opOf w = 0b10#2 ∨ opOf w = 0b11#2 := by revert w; decide
  rcases hop with hw | hw | hw | hw
  · rw [accept_init hw]
    have fits : ∀ w, opOf w = 0b00#2 → phaseFits phSaveIe w = true := by decide
    exact blockInv_goto ((h.pins hp).relabel rfl rfl rfl |>.move rfl rfl rfl) (h.reportsAtRest (by decide))
      (fits w hw) (fun _ _ hs => absurd rfl hs) h.settleBound
  · rw [accept_update hw]
    have fits : ∀ w, opOf w = 0b01#2 → phaseFits phStrobeLow w = true := by decide
    exact blockInv_goto ((h.pins hp).startScan (by simp [hw])) (h.reportsAtRest (by decide))
      (fits w hw) (fun h0 => by simp [hw] at h0) h.settleBound
  · rw [accept_changed hw]
    have fits : ∀ w, opOf w = 0b10#2 → phaseFits phChg w = true := by decide
    exact blockInv_goto ((h.pins hp).relabel rfl rfl rfl |>.move rfl rfl rfl) (h.reportsAtRest (by decide))
      (fits w hw) (fun h0 => by simp [hw] at h0) h.settleBound
  · rw [accept_buildReport hw]
    have hpins : PinsInv phIdle w s.col s.colDir s.colLvl s.colPue := (h.pins hp).relabel rfl rfl rfl
    split
    · next hd =>
      have fits : ∀ w, opOf w = 0b11#2 → destSupplied w = true → phaseFits phCopyDest w = true := by decide
      exact blockInv_goto (hpins.move rfl rfl rfl) (h.reports hp).startDest (fits w hw hd)
        (fun h0 => by simp [hw] at h0) h.settleBound
    · next hd =>
      have fits : ∀ w, opOf w = 0b11#2 → phaseFits phCopyRep w = true := by decide
      exact blockInv_goto (hpins.move rfl rfl rfl) ((h.reports hp).startRep fun hd' => absurd hd' hd)
        (fits w hw) (fun h0 => by simp [hw] at h0) h.settleBound

theorem idle (h : BlockInv s) (hp : s.ph = phIdle) :
    BlockInv (if s.cmdValid then Machine.accept s.cmdWord s else { s with done := false }) := by
  split
  · exact h.accept hp s.cmdWord
  · refine blockInv_of_idle hp ((h.pins hp).inputs rfl) h.levelsLow ?_ h.lastReadLegal h.lastReportedLegal
      h.settleBound
    exact (h.pins hp).pullUps.imp_right fun hoff => ⟨nofun, hoff.2⟩

/-- The micro-operation that `PH` names keeps the invariant. -/
theorem phase {i : Instr} {t : State} (h : BlockInv s) (hi : decodePhase s.ph = .ok i) (ht : exec i s = .next t) :
    BlockInv t := by
  have he := encode_of_decodePhase hi
  cases i
  case init | update | changed | buildReport => cases he
  all_goals (injection he with hp; replace hp := hp.symm; injection ht with ht; subst ht)
  case idle => exact h.idle hp
  case saveIe => exact h.saveIe hp
  case cfgPins => exact h.cfgPins hp
  case strobeLow => exact h.strobeLow hp
  case strobeOut => exact h.strobeOut hp
  case settle => exact h.settle hp
  case sample => exact h.sample hp
  case releaseIn => exact h.releaseIn hp
  case releasePu => exact h.releasePu hp
  case decode => exact h.decode hp
  case pack => exact h.pack hp
  case restoreIe => exact h.restoreIe hp
  case chg => exact h.chg hp
  case copyDest => exact h.copyDest hp
  case copyRep => exact h.copyRep hp

/-! ## Each whole command keeps the invariant -/

/-- What a scan leaves is idle, every pull-up on, with a report PACK produces (R109(b), R144). -/
theorem of_acquired {t : State} (h : BlockInv s) (hp : t.ph = phIdle) (hdir : t.colDir = Vector.replicate 4 false)
    (hlvl : t.colLvl = Vector.replicate 4 false) (hpue : t.colPue = Vector.replicate 4 true)
    (hr : ∃ cfg raw, t.lastRead = Machine.pack (decodeState cfg raw)) (hq : t.lastReported = s.lastReported)
    (hset : t.settleCnt ≤ t.cfg.nSettle) : BlockInv t := by
  obtain ⟨cfg, raw, hr⟩ := hr
  refine blockInv_of_idle hp (by simp [hdir]) (by simp [hlvl]) (.inl (by simp [hpue])) ?_ (hq ▸ h.lastReportedLegal)
    hset
  rw [hr]
  exact pack_legal (decodeState_legal cfg raw)

/-- A command that leaves the pins alone and has neither INIT's nor UPDATE's word. -/
theorem of_samePins {t : State} (h : BlockInv s) (hs : s.ph = phIdle) (hp : t.ph = phIdle)
    (hpins : t.colDir = s.colDir ∧ t.colLvl = s.colLvl ∧ t.colPue = s.colPue)
    (hw : opOf t.cmdQ ≠ 0b00#2 ∧ opOf t.cmdQ ≠ 0b01#2)
    (hr : t.lastRead = s.lastRead) (hq : t.lastReported = s.lastReported ∨ t.lastReported = s.lastRead)
    (hset : t.settleCnt ≤ t.cfg.nSettle) : BlockInv t := by
  obtain ⟨hdir, hlvl, hpue⟩ := hpins
  refine blockInv_of_idle hp ?_ ?_ ?_ (hr ▸ h.lastReadLegal) ?_ hset
  · rw [hdir]; exact (h.pins hs).inputs rfl
  · rw [hlvl]; exact h.levelsLow
  · rw [hpue]; exact (h.pins hs).pullUps.imp_right fun hoff => ⟨fun _ => hw, hoff.2⟩
  · rcases hq with hq | hq <;> rw [hq]
    · exact h.lastReportedLegal
    · exact h.lastReadLegal

/-- A whole command keeps the invariant. -/
theorem call {w : CmdWord} {t : State} (h : BlockInv s) (ht : exec (decodeCmd w) s = .next t) : BlockInv t := by
  obtain ⟨d, hw | hw | hw | hw⟩ := decodeCmd_cases w <;> rw [hw] at ht
  · obtain ⟨_, rfl⟩ := init_cases ht
    exact h.of_acquired rfl rfl rfl rfl ⟨_, _, rfl⟩ rfl (min_le_left _ _)
  · obtain ⟨_, rfl⟩ := update_cases ht
    exact h.of_acquired rfl rfl rfl rfl ⟨_, _, rfl⟩ rfl (min_le_left _ _)
  · obtain ⟨hp, rfl⟩ := changed_cases ht
    exact h.of_samePins hp rfl ⟨rfl, rfl, rfl⟩ (by simp) rfl (.inl rfl) h.settleBound
  · obtain ⟨hp, rfl⟩ := buildReport_cases ht
    exact h.of_samePins hp rfl ⟨rfl, rfl, rfl⟩ (by simp) rfl (.inr rfl) h.settleBound

/-! ## Every step keeps the invariant -/

/-- The invariant does not read the inputs, the other agents' state or the agenda, and `IE` outside IDLE only. -/
theorem of_frame {v : Bool} {cw : CmdWord} {r ie : Bool} {sw : Vector RowBits 4} {rows : List RowBits}
    {buf : Report} {ag : List AgentStep} (h : BlockInv s) (hie : ie = s.ie ∨ s.ph = phIdle) :
    BlockInv { s with cmdValid := v, cmdWord := cw, rst := r, ie := ie, sw := sw, rowsIn := rows, readerBuf := buf
                      agenda := ag } where
  oneColumn := h.oneColumn
  levelsLow := h.levelsLow
  pullUps := h.pullUps
  initFloats := h.initFloats
  released := h.released
  lastReadLegal := h.lastReadLegal
  lastReportedLegal := h.lastReportedLegal
  decoded := h.decoded
  phaseOfCommand := h.phaseOfCommand
  lastColumn := h.lastColumn
  maskedInInit h0 hp hs := hie.elim (fun e => e.trans (h.maskedInInit h0 hp hs)) (absurd · hp)
  settleBound := h.settleBound
  destCopied := h.destCopied
  destDone := h.destDone
  repCopied := h.repCopied

/-- The invariant does not read the turns to come. -/
theorem turnTaken (h : BlockInv s) : BlockInv (turnTaken s) := h.of_frame (.inl rfl)

/-- The invariant is kept by every step of every agent. -/
theorem step {t : State} (h : BlockInv s) (hs : step s = .next t) : BlockInv t := by
  cases turn_of_step hs with
  | reset _ _ ht => subst ht; exact blockInv_of_atReset (resetEdge_atReset _) rfl
  | phase i _ _ hi ht => exact h.turnTaken.phase hi ht
  | call w _ _ ht => exact h.turnTaken.call ht
  | other a rest _ hb ht =>
    obtain ⟨hframe, hie⟩ := agentTurn_frame hb ht
    rw [hframe]
    exact h.of_frame hie

end BlockInv

/-- Settles O41: each phase, command and reset edge meets the invariant by its parts, and the other agents' turns
touch none of them. -/
theorem everyStepKeepsInvariant : Obligations.EveryStepKeepsInvariant :=
  fun _ _ h hs => h.step hs

/-- Settles O40: the reset values meet the invariant. -/
theorem invariantAtReset : Obligations.InvariantAtReset :=
  ⟨blockInv_of_atReset reset_atReset rfl, fun _ h hd => blockInv_of_atReset h hd⟩

end Machine
end Sys2Proof
end

section
/-! SUPPORT. Which instruction writes which register, what `IE` decides, and what the other agents' turns and the
parameters leave alone. -/

namespace Sys2Proof
namespace Machine

/-! ## Writers of the registers (10_state.md R20) -/

/-- Acceptance writes the sequencer's registers and `done` only (R150). -/
theorem accept_frame (w : CmdWord) (s : State) : accept w s = { s with
    ph := (accept w s).ph, col := (accept w s).col, idx := (accept w s).idx, cmdQ := (accept w s).cmdQ
    done := false } := by
  unfold accept
  split <;> rfl

/-- IDLE writes the sequencer's registers and `done` only (R150). -/
theorem idle_frame {s t : State} (h : exec .idle s = .next t) :
    t = { s with ph := t.ph, col := t.col, idx := t.idx, cmdQ := t.cmdQ, done := false } := by
  rw [exec_idle] at h
  injection h with h
  subst h
  split
  · exact accept_frame s.cmdWord s
  · rfl

/-- `FIRST` is re-armed by the parameter only (R160). -/
theorem initRearmsFirst_of_firstAfterInit_ne {cfg : Config} {first : Bool} (h : firstAfterInit cfg first ≠ first) :
    cfg.initRearmsFirst = true := by
  by_contra hn
  simp [firstAfterInit, hn] at h

/-- Each command is the meaning of a word (R81). -/
theorem init_hasWord (d : Bool) : ∃ w, Instr.init d = decodeCmd w := ⟨cmdWordOf 0b00#2 d, by cases d <;> rfl⟩
theorem update_hasWord (d : Bool) : ∃ w, Instr.update d = decodeCmd w := ⟨cmdWordOf 0b01#2 d, by cases d <;> rfl⟩
theorem changed_hasWord (d : Bool) : ∃ w, Instr.changed d = decodeCmd w :=
  ⟨cmdWordOf 0b10#2 d, by cases d <;> rfl⟩
theorem buildReport_hasWord (d : Bool) : ∃ w, Instr.buildReport d = decodeCmd w :=
  ⟨cmdWordOf 0b11#2 d, by cases d <;> rfl⟩

/-- Settles O45: by instruction, what each leaves in every register. -/
theorem registersHaveTheirWriters : Obligations.RegistersHaveTheirWriters := by
  intro i s t h scans
  have rearms := @initRearmsFirst_of_firstAfterInit_ne s.cfg s.first
  cases i
  case init d => obtain ⟨_, rfl⟩ := init_cases h; simpa [scans, acquired, init_hasWord] using rearms
  case update d => obtain ⟨_, rfl⟩ := update_cases h; simp [scans, acquired, update_hasWord]
  case changed d => obtain ⟨_, rfl⟩ := changed_cases h; simp [scans, changed_hasWord]
  case buildReport d => obtain ⟨_, rfl⟩ := buildReport_cases h; cases d <;> simp [scans, buildReport_hasWord]
  case idle => rw [idle_frame h]; simp
  case saveIe => injection h with h; subst h; simpa using rearms
  case releasePu => rw [exec_releasePu] at h; injection h with h; subst h; split <;> simp
  case pack => rw [exec_pack] at h; injection h with h; subst h; split <;> simp
  case copyDest => rw [exec_copyDest] at h; injection h with h; subst h; split <;> simp
  case copyRep => rw [exec_copyRep] at h; injection h with h; subst h; split <;> simp
  all_goals (injection h with h; subst h; simp)

/-- Every instruction keeps the parameters and does not lower the number of the next free value; all but SAVE_IE and
RESTORE_IE leave `IE` as it was, INIT by restoring it (R34, R12, R29). -/
theorem exec_keeps {i : Instr} {s t : State} (h : exec i s = .next t) :
    t.cfg = s.cfg ∧ s.draws ≤ t.draws ∧ (i ≠ .saveIe → i ≠ .restoreIe → t.ie = s.ie) := by
  cases i
  case init d => obtain ⟨_, rfl⟩ := init_cases h; exact ⟨rfl, Nat.le_add_right _ _, fun _ _ => rfl⟩
  case update d => obtain ⟨_, rfl⟩ := update_cases h; exact ⟨rfl, Nat.le_add_right _ _, fun _ _ => rfl⟩
  case changed d => obtain ⟨_, rfl⟩ := changed_cases h; exact ⟨rfl, le_rfl, fun _ _ => rfl⟩
  case buildReport d => obtain ⟨_, rfl⟩ := buildReport_cases h; exact ⟨rfl, le_rfl, fun _ _ => rfl⟩
  case idle => rw [idle_frame h]; exact ⟨rfl, le_rfl, fun _ _ => rfl⟩
  case saveIe => injection h with h; subst h; exact ⟨rfl, le_rfl, fun hne => absurd rfl hne⟩
  case restoreIe => injection h with h; subst h; exact ⟨rfl, le_rfl, fun _ hne => absurd rfl hne⟩
  case sample => injection h with h; subst h; exact ⟨rfl, Nat.le_succ _, fun _ _ => rfl⟩
  case releasePu =>
    rw [exec_releasePu] at h; injection h with h; subst h
    split <;> exact ⟨rfl, le_rfl, fun _ _ => rfl⟩
  case pack =>
    rw [exec_pack] at h; injection h with h; subst h
    split <;> exact ⟨rfl, le_rfl, fun _ _ => rfl⟩
  case copyDest =>
    rw [exec_copyDest] at h; injection h with h; subst h
    split <;> exact ⟨rfl, le_rfl, fun _ _ => rfl⟩
  case copyRep =>
    rw [exec_copyRep] at h; injection h with h; subst h
    split <;> exact ⟨rfl, le_rfl, fun _ _ => rfl⟩
  all_goals (injection h with h; subst h; exact ⟨rfl, le_rfl, fun _ _ => rfl⟩)

/-! ## The interrupt enable (10_state.md R29) -/

/-- A register update that does not depend on `IE` and leaves it. -/
def IgnoresIe (f : State → State) : Prop := ∀ (s : State) (v : Bool), f { s with ie := v } = { f s with ie := v }

/-- A whole command whose composite ignores `IE`. -/
theorem command_ignoresIe {w : CmdWord} {f : State → State} (hf : IgnoresIe f) (s : State) (v : Bool) :
    command w f { s with ie := v } = mapNext (fun t => { t with ie := v }) (command w f s) := by
  unfold command
  split
  · exact congrArg (fun t => Host.Outcome.next (finish t)) (hf (latch w s) v)
  · rfl

theorem acquire_ignoresIe : IgnoresIe acquire := fun s v => by rw [acquire_eq, acquire_eq]; rfl

theorem buildCopies_ignoresIe (d : Bool) : IgnoresIe (fun t => countWritten d (buildCopies d t)) :=
  fun s v => by simp only [buildCopies_eq]; rfl

theorem accept_ignoresIe (w : CmdWord) : IgnoresIe (accept w) := fun s v => by
  unfold accept
  split <;> rfl

/-- No instruction but SAVE_IE, RESTORE_IE and INIT reads `IE`. -/
theorem exec_ignoresIe {i : Instr} (s : State) (v : Bool) (hsave : i ≠ .saveIe) (hrest : i ≠ .restoreIe)
    (hinit : ∀ d, i ≠ .init d) : exec i { s with ie := v } = mapNext (fun t => { t with ie := v }) (exec i s) := by
  cases i
  case init d => exact absurd rfl (hinit d)
  case saveIe => exact absurd rfl hsave
  case restoreIe => exact absurd rfl hrest
  case update d => exact command_ignoresIe acquire_ignoresIe s v
  case changed d => exact command_ignoresIe (fun _ _ => rfl) s v
  case buildReport d => exact command_ignoresIe (buildCopies_ignoresIe d) s v
  case idle =>
    rw [exec_idle, exec_idle]
    split
    · exact congrArg Host.Outcome.next (accept_ignoresIe s.cmdWord s v)
    · rfl
  case releasePu => rw [exec_releasePu, exec_releasePu]; split <;> rfl
  case pack => rw [exec_pack, exec_pack]; split <;> rfl
  case copyDest => rw [exec_copyDest, exec_copyDest]; split <;> rfl
  case copyRep => rw [exec_copyRep, exec_copyRep]; split <;> rfl
  all_goals rfl

/-- Settles O46: `IE` is kept by every instruction but two, and read by no others but INIT. -/
theorem onlyInitTouchesInterruptEnable : Obligations.OnlyInitTouchesInterruptEnable :=
  ⟨fun _ _ _ h => (exec_keeps h).2.2, fun _ s v => exec_ignoresIe s v⟩

/-! ## The other agents (00_scope.md R10) -/

/-- Settles O47: the frame of the turns that do not move the block, and who changes each input. -/
theorem otherAgentsLeaveTheBlockAlone : Obligations.OtherAgentsLeaveTheBlockAlone := by
  intro a s t h hblock hcall hbranch
  have hrests : BlockRests a s := ⟨hblock, hcall, hbranch⟩
  refine ⟨(agentTurn_frame hrests h).1, ?_⟩
  cases a
  case block => exact absurd rfl hblock
  case invoke w => exact absurd rfl (hcall w)
  case invokeIfChanged w =>
    rw [agentTurn, hbranch w rfl] at h
    injection h with h; subst h; simp
  case platformIe v => injection h with h; subst h; split <;> simp_all
  case readerRead i => injection h with h; subst h; unfold readerTurn; split <;> simp_all
  case press f => injection h with h; subst h; simp [setSwitch, setSwitchAt]
  case release f => injection h with h; subst h; simp [setSwitch, setSwitchAt]
  case moveSwitch p closed => injection h with h; subst h; simp [setSwitchAt]
  all_goals (injection h with h; subst h; simp)

/-! ## The parameters and the free values (10_state.md R34, 00_scope.md R12) -/

/-- Every step keeps the parameters and does not lower the number of the next free value. -/
theorem step_parameters {s t : State} (h : step s = .next t) : t.cfg = s.cfg ∧ s.draws ≤ t.draws := by
  cases turn_of_step h with
  | reset _ _ ht => subst ht; exact ⟨rfl, Nat.le_add_right _ _⟩
  | phase i _ _ _ ht =>
    obtain ⟨hcfg, hdraws, _⟩ := exec_keeps ht
    exact ⟨hcfg, hdraws⟩
  | call w _ _ ht =>
    obtain ⟨hcfg, hdraws, _⟩ := exec_keeps ht
    exact ⟨hcfg, hdraws⟩
  | other a rest _ hb ht => rw [(agentTurn_frame hb ht).1]; exact ⟨rfl, le_rfl⟩

/-- Settles O50: by turn; the increments are those of the scan, the row read and the reset edge. -/
theorem parametersNeverChange : Obligations.ParametersNeverChange := by
  refine ⟨fun _ _ => step_parameters, fun s t h => ?_, fun s t d h => ?_, fun s t hr h => ?_⟩
  · injection h with h; subst h; rfl
  · rcases h with h | h
    · obtain ⟨_, rfl⟩ := init_cases h; rfl
    · obtain ⟨_, rfl⟩ := update_cases h; rfl
  · rcases blockTurn_cases h with ⟨_, rfl⟩ | ⟨hr', _⟩
    · rfl
    · simp [hr] at hr'

/-! ## The next instruction (10_state.md R30, 44_commands.md R150) -/

/-- With the reset input low the block's turn runs the micro-operation that `PH` names. -/
theorem blockTurn_phase {s : State} {i : Instr} (hr : s.rst = false) (hi : decodePhase s.ph = .ok i) :
    blockTurn s = exec i s := by
  rw [blockTurn, hr, hi]; rfl

/-- With the reset input low a call runs the decoded command. -/
theorem invokeTurn_command {s : State} (w : CmdWord) (hr : s.rst = false) : invokeTurn w s = exec (decodeCmd w) s := by
  rw [invokeTurn, hr]; rfl

/-- A step takes the turn at the head of the agenda. -/
theorem step_cons {s : State} {a : AgentStep} {rest : List AgentStep} (ha : s.agenda = a :: rest) :
    step s = agentTurn a { s with agenda := rest } := by
  rw [step, ha]

/-- Settles O6: the block's turn and the calls, turn by turn. -/
theorem stepRunsDecodedInstruction : Obligations.StepRunsDecodedInstruction := by
  refine ⟨fun s i hr ha hi => ?_, fun s i rest hr ha hi => ?_, fun s w rest hr ha => ?_, fun s w rest hr ha => ?_⟩
  · rw [step, ha]; exact blockTurn_phase hr hi
  · rw [step_cons ha]; exact blockTurn_phase hr hi
  · rw [step_cons ha]; exact invokeTurn_command w hr
  · rw [step_cons ha, agentTurn]
    split
    · exact invokeTurn_command w hr
    · rfl

/-- A word of the table's numbering that decodes stands for a control word that does. -/
theorem decodeTableWord_cases {nbits w : Nat} {i : Instr} (h : decodeTableWord nbits w = some i) :
    ∃ c, tableCodeWord nbits w = some c ∧ decode c = .ok i := by
  unfold decodeTableWord at h
  split at h
  · next c hc =>
    refine ⟨c, hc, ?_⟩
    cases hd : decode c with
    | ok j => rw [hd] at h; injection h with h; rw [h]
    | error e => rw [hd] at h; cases h
  · cases h

/-- A placed word is run by the next step. -/
theorem step_withFetchWord {s : State} {nbits w : Nat} {c : CodeWord} (hc : tableCodeWord nbits w = some c) :
    step (s.withFetchWord nbits w) = step (placeWord c s) := by
  rw [State.withFetchWord, hc]

/-- A placed command is the next call. -/
theorem step_placeWord_cmd3 (w : CmdWord) (s : State) :
    step (placeWord (.cmd3 w) s) = exec (decodeCmd w) { s with rst := false, ph := phIdle } :=
  invokeTurn_command (s := { s with rst := false, ph := phIdle }) w rfl

/-- A placed phase is the next clock edge. -/
theorem step_placeWord_ph4 {p : PhaseCode} {i : Instr} (s : State) (hi : decodePhase p = .ok i) :
    step (placeWord (.ph4 p) s) = exec i { s with rst := false, ph := p } :=
  blockTurn_phase (s := { s with rst := false, ph := p }) rfl hi

/-- Settles O7: a placed command is the next call, a placed phase the next clock edge. -/
theorem placedWordRunsNext : Obligations.PlacedWordRunsNext := by
  intro s nbits w i h
  obtain ⟨c, hc, hi⟩ := decodeTableWord_cases h
  have he := encode_of_decode hi
  rw [step_withFetchWord hc]
  cases c with
  | cmd3 cw =>
    injection hi with hi
    subst hi
    exact ⟨phIdle, step_placeWord_cmd3 cw s, .inr ⟨rfl, cw, he⟩⟩
  | ph4 p => exact ⟨p, step_placeWord_ph4 s hi, .inl he⟩

end Machine
end Sys2Proof
end

section
/-! SUPPORT. `LAST_REPORTED` outside a baseline copy, and what five guarded reads deliver (20_memory.md R59,
70_reset_and_hazards.md R198). -/

namespace Sys2Proof
namespace Machine

/-! ## Runs -/

/-- The first step of a run. -/
theorem run_succ_first {n : Nat} {s u : State} (h : run (n + 1) s = .next u) :
    ∃ t, step s = .next t ∧ run n t = .next u := by
  unfold run at h
  cases hs : step s with
  | next t => rw [hs] at h; exact ⟨t, rfl, h⟩
  | fault r => cases r
  | refused r => rw [hs] at h; cases h

/-- The last step of a run. -/
theorem run_succ_last {n : Nat} {s u : State} (h : run (n + 1) s = .next u) :
    ∃ t, run n s = .next t ∧ step t = .next u := by
  induction n generalizing s with
  | zero =>
    obtain ⟨t, hs, ht⟩ := run_succ_first h
    injection ht with ht
    exact ⟨s, rfl, ht ▸ hs⟩
  | succ n ih =>
    obtain ⟨t, hs, ht⟩ := run_succ_first h
    obtain ⟨v, hv, hu⟩ := ih ht
    exact ⟨v, (run_cons hs).trans hv, hu⟩

/-- The invariant is kept by every run. -/
theorem BlockInv.run {n : Nat} {s u : State} (h : BlockInv s) (hu : run n s = .next u) : BlockInv u := by
  induction n generalizing s with
  | zero => injection hu with hu; exact hu ▸ h
  | succ n ih =>
    obtain ⟨t, hs, ht⟩ := run_succ_first hu
    exact ih (h.step hs) ht

/-! ## Writes of `LAST_REPORTED` (10_state.md R25) -/

/-- Only COPY_REP and BUILDREPORT write `LAST_REPORTED`. -/
theorem exec_lastReported {i : Instr} {s t : State} (h : exec i s = .next t) (hc : i ≠ .copyRep)
    (hb : ∀ d, i ≠ .buildReport d) : t.lastReported = s.lastReported := by
  obtain ⟨_, _, _, hwriters, _⟩ := registersHaveTheirWriters i s t h
  by_contra hne
  rcases hwriters hne with hi | ⟨d, hi⟩
  · exact hc hi
  · exact hb d hi

/-- A micro-operation other than COPY_REP leaves `LAST_REPORTED`. -/
theorem phase_lastReported {p : PhaseCode} {i : Instr} {s t : State} (hi : decodePhase p = .ok i)
    (h : exec i s = .next t) (hp : p ≠ phCopyRep) : t.lastReported = s.lastReported := by
  have he := encode_of_decodePhase hi
  refine exec_lastReported h ?_ ?_
  · rintro rfl; injection he with he; exact hp he.symm
  · rintro d rfl; cases he

/-- A whole command other than BUILDREPORT leaves `LAST_REPORTED`. -/
theorem call_lastReported {w : CmdWord} {s t : State} (h : exec (decodeCmd w) s = .next t) (hw : opOf w ≠ 0b11#2) :
    t.lastReported = s.lastReported := by
  have hop : ∀ w, (∃ d, decodeCmd w = .buildReport d) → opOf w = 0b11#2 := by decide
  refine exec_lastReported h (fun hc => ?_) fun d hd => hw (hop w ⟨d, hd⟩)
  have he := encode_decodeCmd w
  rw [hc] at he
  cases he

/-- A whole BUILDREPORT makes the report the baseline; another whole command leaves the baseline (R156). -/
theorem call_baseline {w : CmdWord} {s t : State} (h : exec (decodeCmd w) s = .next t) :
    t.lastReported = s.lastReported ∨ t.lastReported = t.lastRead := by
  obtain ⟨d, hw | hw | hw | hw⟩ := decodeCmd_cases w <;> rw [hw] at h
  · exact .inl (exec_lastReported h nofun nofun)
  · exact .inl (exec_lastReported h nofun nofun)
  · exact .inl (exec_lastReported h nofun nofun)
  · obtain ⟨_, rfl⟩ := buildReport_cases h
    exact .inr rfl

/-- A whole command starts in IDLE (R151). -/
theorem call_idle {w : CmdWord} {s t : State} (h : exec (decodeCmd w) s = .next t) : s.ph = phIdle := by
  obtain ⟨d, hw | hw | hw | hw⟩ := decodeCmd_cases w <;> rw [hw] at h
  · exact (init_cases h).1
  · exact (update_cases h).1
  · exact (changed_cases h).1
  · exact (buildReport_cases h).1

/-- COPY_REP stands inside a copy afterwards, or has completed one (R158). -/
theorem copyRep_baseline {s t : State} (h : BlockInv s) (hp : s.ph = phCopyRep) (ht : exec .copyRep s = .next t) :
    MidBaselineCopy t ∨ t.lastReported = t.lastRead := by
  rw [exec_copyRep] at ht
  injection ht with ht
  subst ht
  split
  · next h4 => exact .inr (copied_all (h.repCopied hp) h4)
  · next h4 =>
    have hne : ∀ i : ByteIdx, i ≠ 4 → i + 1 ≠ 0 := by decide
    exact .inl ⟨hp, hne _ h4⟩

/-- A step that ends outside a baseline copy came from outside one and left `LAST_REPORTED`, or cleared it, or
completed a copy of `LAST_READ`. -/
theorem step_baseline {s t : State} (h : BlockInv s) (hs : step s = .next t) (hout : ¬ MidBaselineCopy t) :
    (¬ MidBaselineCopy s ∧ t.lastReported = s.lastReported) ∨ t.lastReported = Vector.replicate 5 0x00#8 ∨
      t.lastReported = t.lastRead := by
  cases turn_of_step hs with
  | reset _ _ ht => subst ht; exact .inr (.inl rfl)
  | phase i _ _ hi ht =>
    by_cases hp : s.ph = phCopyRep
    · rw [hp] at hi
      injection hi with hi
      subst hi
      exact .inr (.inr ((copyRep_baseline h.turnTaken hp ht).resolve_left hout))
    · exact .inl ⟨fun hm => hp hm.1, phase_lastReported (s := turnTaken s) hi ht hp⟩
  | call w _ _ ht =>
    have hp : s.ph = phIdle := call_idle (s := turnTaken s) ht
    rcases call_baseline ht with hq | hq
    · exact .inl ⟨fun hm => absurd (hp.symm.trans hm.1) (by decide), hq⟩
    · exact .inr (.inr hq)
  | other a rest _ hb ht =>
    obtain ⟨hframe, _⟩ := agentTurn_frame hb ht
    rw [hframe] at hout ⊢
    exact .inl ⟨hout, rfl⟩

/-- `r` is the baseline the run of `n` steps from `s` began with, or all zero, or a report `LAST_READ` held in it. -/
def HeldReport (n : Nat) (s : State) (r : Report) : Prop :=
  r = s.lastReported ∨ r = Vector.replicate 5 0x00#8 ∨ ∃ m v, m ≤ n ∧ run m s = .next v ∧ r = v.lastRead

theorem HeldReport.succ {n : Nat} {s : State} {r : Report} (h : HeldReport n s r) : HeldReport (n + 1) s r :=
  h.imp_right <| .imp_right fun ⟨m, v, hm, hv, hr⟩ => ⟨m, v, Nat.le_succ_of_le hm, hv, hr⟩

/-- Outside a baseline copy `LAST_REPORTED` is a held report. -/
theorem baseline_held {n : Nat} {s u : State} (h : BlockInv s) (hu : run n s = .next u) (huout : ¬ MidBaselineCopy u) :
    HeldReport n s u.lastReported := by
  induction n generalizing u with
  | zero => injection hu with hu; subst hu; exact .inl rfl
  | succ n ih =>
    obtain ⟨v, hv, hs⟩ := run_succ_last hu
    rcases step_baseline (h.run hv) hs huout with ⟨hvout, hq⟩ | hq | hq
    · exact hq ▸ (ih hv hvout).succ
    · exact .inr (.inl hq)
    · exact .inr (.inr ⟨n + 1, u, le_rfl, hu, hq⟩)

/-! ## Turns that leave `LAST_REPORTED` -/

theorem writesBaseline_of_blockNext {s : State} (h : BlockNext s) :
    writesBaseline s = (s.rst || s.ph == phCopyRep) := by
  rcases h with ha | ⟨rest, ha⟩ <;> rw [writesBaseline, ha]

theorem writesBaseline_of_callNext {w : CmdWord} {s : State} (h : CallNext w s) :
    writesBaseline s = (s.rst || opOf w == 0b11#2) := by
  obtain ⟨rest, ha | ⟨ha, hq⟩⟩ := h <;> rw [writesBaseline, ha]
  simp [hq]

/-- A turn that is no writer of the baseline leaves it. -/
theorem step_lastReported {s t : State} (hs : step s = .next t) (hw : writesBaseline s = false) :
    t.lastReported = s.lastReported := by
  cases turn_of_step hs with
  | reset hr hn _ =>
    rcases hn with hn | ⟨w, hn⟩
    · simp [writesBaseline_of_blockNext hn, hr] at hw
    · simp [writesBaseline_of_callNext hn, hr] at hw
  | phase i _ hn hi ht =>
    refine phase_lastReported (s := turnTaken s) hi ht fun hp => ?_
    simp [writesBaseline_of_blockNext hn, hp] at hw
  | call w _ hn ht =>
    refine call_lastReported (s := turnTaken s) ht fun hop => ?_
    simp [writesBaseline_of_callNext hn, hop] at hw
  | other a rest _ hb ht => rw [(agentTurn_frame hb ht).1]; rfl

/-! ## The reader (20_memory.md R59) -/

/-- The reader reads byte `i` next. -/
def ReadsNext (i : ByteIdx) (s : State) : Prop := ∃ rest, s.agenda = .readerRead i :: rest ∧ s.ie = true

theorem readerSteps_iff (s : State) : readerSteps s = true ↔ ∃ i, ReadsNext i s := by
  unfold readerSteps ReadsNext
  split
  · next i rest ha => simp [ha]
  · next hno => simp only [Bool.false_eq_true, false_iff]; rintro ⟨i, rest, ha, _⟩; exact hno i rest ha

/-- A read takes its byte of `LAST_REPORTED` and changes nothing of the block. -/
theorem step_of_readsNext {i : ByteIdx} {s t : State} (hr : ReadsNext i s) (hs : step s = .next t) :
    t.readerBuf = s.readerBuf.set i s.lastReported[i] ∧ t.lastReported = s.lastReported := by
  obtain ⟨rest, ha, hie⟩ := hr
  rw [step_cons ha] at hs
  injection hs with hs
  subst hs
  rw [readerTurn, if_pos hie]
  exact ⟨rfl, rfl⟩

/-- Without a read the reader's bytes stay. -/
theorem readerBuf_of_noRead {s t : State} (hs : step s = .next t) (hno : readerSteps s = false) :
    t.readerBuf = s.readerBuf := by
  cases turn_of_step hs with
  | reset _ _ ht => subst ht; rfl
  | phase i _ _ _ ht =>
    obtain ⟨_, _, _, _, _, hbuf, _⟩ := exec_sameEnvironment ht
    exact hbuf
  | call w _ _ ht =>
    obtain ⟨_, _, _, _, _, hbuf, _⟩ := exec_sameEnvironment ht
    exact hbuf
  | other a rest ha hb ht =>
    obtain ⟨_, _, _, _, hbuf, _⟩ :=
      otherAgentsLeaveTheBlockAlone a (turnTaken s) t ht hb.notBlock hb.notCall hb.branchNotTaken
    by_contra hne
    obtain ⟨hie, i, rfl⟩ := hbuf hne
    exact absurd ((readerSteps_iff s).mpr ⟨i, rest, ha, hie⟩) (by simp [hno])

/-- Byte `i` is read within `k` steps of `s`. -/
def ReadWithin (i : ByteIdx) (k : Nat) (s : State) : Prop := ∃ m v, m < k ∧ run m s = .next v ∧ ReadsNext i v

theorem readWithin_succ {i : ByteIdx} {k : Nat} {s t : State} (hs : step s = .next t) :
    ReadWithin i (k + 1) s ↔ ReadsNext i s ∨ ReadWithin i k t := by
  constructor
  · rintro ⟨m, v, hm, hv, hr⟩
    cases m with
    | zero => injection hv with hv; subst hv; exact .inl hr
    | succ m => exact .inr ⟨m, v, by omega, (run_cons hs).symm.trans hv, hr⟩
  · rintro (hr | ⟨m, v, hm, hv, hr⟩)
    · exact ⟨0, s, by omega, rfl, hr⟩
    · exact ⟨m + 1, v, by omega, (run_cons hs).trans hv, hr⟩

theorem readsIn_succ {k : Nat} {s t : State} (hs : step s = .next t) :
    readsIn (k + 1) s = (readerSteps s).toNat + readsIn k t := by
  simp [readsIn, hs]

/-- The bytes read within `k` steps from `s` to `t` are those of `r`, and the others are as they were. -/
def Delivers (r : Report) (k : Nat) (s t : State) : Prop :=
  ∀ i : ByteIdx, t.readerBuf[i] = r[i] ∨ (t.readerBuf[i] = s.readerBuf[i] ∧ ¬ ReadWithin i k s)

/-- A step under the report that the rest of the run delivers. -/
theorem Delivers.cons {k : Nat} {s t u : State} (hs : step s = .next t) (h : Delivers s.lastReported k t u) :
    Delivers s.lastReported (k + 1) s u := by
  intro i
  rcases h i with hi | ⟨hi, hnot⟩
  · exact .inl hi
  cases hr : readerSteps s with
  | false =>
    refine .inr ⟨hi.trans (by rw [readerBuf_of_noRead hs hr]), fun hw => ?_⟩
    rcases (readWithin_succ hs).mp hw with hn | hw
    · simp [(readerSteps_iff s).mpr ⟨i, hn⟩] at hr
    · exact hnot hw
  | true =>
    obtain ⟨j, hj⟩ := (readerSteps_iff s).mp hr
    obtain ⟨hbuf, _⟩ := step_of_readsNext hj hs
    rw [hbuf, byte_set] at hi
    by_cases hij : i = j
    · subst hij; exact .inl (by simpa using hi)
    · refine .inr ⟨by simpa [hij] using hi, fun hw => ?_⟩
      rcases (readWithin_succ hs).mp hw with ⟨_, ha, _⟩ | hw
      · obtain ⟨_, ha', _⟩ := hj
        rw [ha'] at ha
        injection ha with ha _
        injection ha with ha
        exact hij ha.symm
      · exact hnot hw

/-- A run without reads delivers nothing: every report will do. -/
theorem delivers_of_noReads {k : Nat} {s u : State} (hu : run k s = .next u) (h0 : readsIn k s = 0) (r : Report) :
    Delivers r k s u := by
  induction k generalizing s with
  | zero =>
    injection hu with hu; subst hu
    exact fun i => .inr ⟨rfl, fun ⟨m, _, hm, _⟩ => absurd hm (Nat.not_lt_zero m)⟩
  | succ k ih =>
    obtain ⟨t, hs, ht⟩ := run_succ_first hu
    rw [readsIn_succ hs] at h0
    have hr : readerSteps s = false := by cases hr : readerSteps s <;> simp_all
    intro i
    refine (ih ht (by omega) i).imp_right fun ⟨hi, hnot⟩ =>
      ⟨hi.trans (by rw [readerBuf_of_noRead hs hr]), fun hw => ?_⟩
    rcases (readWithin_succ hs).mp hw with hn | hw
    · simp [(readerSteps_iff s).mpr ⟨i, hn⟩] at hr
    · exact hnot hw

/-! ## Five guarded reads -/

/-- The guard counts reads in fives. -/
theorem GuardedFrom.congr {k k' : Nat} {s : State} (h : GuardedFrom k s) (hk : k % 5 = k' % 5) : GuardedFrom k' s :=
  fun n t ht => ⟨(h n t ht).1, fun hw => by have := (h n t ht).2 hw; omega⟩

/-- The guard after a part of the run. -/
theorem GuardedFrom.run {k n : Nat} {s u : State} (h : GuardedFrom k s) (hu : run n s = .next u) :
    GuardedFrom (k + readsIn n s) u := by
  intro m t ht
  have := h (n + m) t ((run_add hu).trans ht)
  rwa [readsIn_add hu, ← Nat.add_assoc] at this

/-- Inside a five the remaining reads are of the baseline as it stands. -/
theorem delivers_of_guarded {c k : Nat} {s u : State} (hg : GuardedFrom c s) (hc : 0 < c) (hk : c + readsIn k s = 5)
    (hu : run k s = .next u) : Delivers s.lastReported k s u := by
  induction k generalizing c s with
  | zero => exact delivers_of_noReads hu rfl _
  | succ k ih =>
    by_cases h0 : readsIn (k + 1) s = 0
    · exact delivers_of_noReads hu h0 _
    obtain ⟨t, hs, ht⟩ := run_succ_first hu
    obtain ⟨⟨_, hwrites⟩, hnext⟩ := (guardedFrom_iff c s).mp hg
    have hq : t.lastReported = s.lastReported :=
      step_lastReported hs (Bool.eq_false_iff.mpr fun hw => by have := hwrites hw; omega)
    rw [readsIn_succ hs] at hk
    exact .cons hs (hq ▸ ih (hnext t hs) (by omega) (by omega) ht)

/-- The next five reads of a guarded reader are all of the baseline as it stood, whole, at the first of them. -/
theorem five_reads {k : Nat} {s u : State} (hg : GuardedReader s) (hk : readsIn k s = 5) (hu : run k s = .next u) :
    ∃ m v, m ≤ k ∧ run m s = .next v ∧ ¬ MidBaselineCopy v ∧
      ∀ i, ReadWithin i k s → u.readerBuf[i] = v.lastReported[i] := by
  induction k generalizing s with
  | zero => cases hk
  | succ k ih =>
    obtain ⟨t, hs, ht⟩ := run_succ_first hu
    obtain ⟨⟨hout, _⟩, hnext⟩ := (guardedFrom_iff 0 s).mp hg
    replace hnext := hnext t hs
    rw [readsIn_succ hs] at hk
    cases hr : readerSteps s with
    | true =>
      obtain ⟨j, hj⟩ := (readerSteps_iff s).mp hr
      obtain ⟨_, hq⟩ := step_of_readsNext hj hs
      rw [hr] at hnext hk
      have hdel : Delivers s.lastReported (k + 1) s u :=
        .cons hs (hq ▸ delivers_of_guarded hnext (by decide) hk ht)
      exact ⟨0, s, Nat.zero_le _, rfl, hout hr, fun i hi => (hdel i).resolve_right fun hn => hn.2 hi⟩
    | false =>
      rw [hr] at hnext hk
      obtain ⟨m, v, hm, hv, hvout, hbytes⟩ := ih hnext (by simpa using hk) ht
      refine ⟨m + 1, v, by omega, (run_cons hs).trans hv, hvout, fun i hi => hbytes i ?_⟩
      refine ((readWithin_succ hs).mp hi).resolve_left fun hn => ?_
      simp [(readerSteps_iff s).mpr ⟨i, hn⟩] at hr

/-- Settles O57: the baseline changes whole or to zero, and five guarded reads fall where it stands still. -/
theorem baselineIsAHeldReport : Obligations.BaselineIsAHeldReport := by
  refine ⟨fun s n u h _ hu => ?_, fun s u t n k h _ hg hu hn ht hk hreads => ?_⟩
  · exact ⟨baseline_held h hu, fun hg hr => baseline_held h hu ((hg n u hu).1 hr)⟩
  · have hgu : GuardedReader u := (hg.run hu).congr (by omega)
    obtain ⟨m, v, hm, hv, hvout, hbytes⟩ := five_reads hgu hk ht
    have hbuf : t.readerBuf = v.lastReported := by
      apply Vector.ext
      intro i hi
      obtain ⟨j, w, rest, hj, hw, hread⟩ := hreads ⟨i, hi⟩
      exact hbytes ⟨i, hi⟩ ⟨j, w, hj, hw, rest, hread⟩
    have hheld := baseline_held h ((run_add hu).trans hv) hvout
    exact ⟨m, v, hm, hv, hvout, hbuf, hbuf ▸ hheld⟩

end Machine
end Sys2Proof
end

section
/-! SUPPORT. The asynchronous reader's turns, alone, in a row and between other agents' turns (20_memory.md R59). -/

namespace Sys2Proof
namespace Machine

/-! ## One turn of the reader -/

/-- With `IE` = 1 the reader's turn copies one byte. -/
theorem step_enabledRead {s : State} {i : ByteIdx} {rest : List AgentStep} (ha : s.agenda = .readerRead i :: rest)
    (hie : s.ie = true) :
    step s = .next { s with readerBuf := s.readerBuf.set i s.lastReported[i], agenda := rest } := by
  rw [step_cons ha]
  exact congrArg Host.Outcome.next (if_pos hie)

/-- With `IE` = 0 the reader's turn passes. -/
theorem step_maskedRead {s : State} {i : ByteIdx} {rest : List AgentStep} (ha : s.agenda = .readerRead i :: rest)
    (hie : s.ie = false) : step s = .next { s with agenda := rest } := by
  rw [step_cons ha]
  exact congrArg Host.Outcome.next (if_neg (Bool.eq_false_iff.mp hie))

/-- Settles O51: the two outcomes of the reader's turn, and the invariant's mask inside INIT. -/
theorem readerStepsOnlyWhileEnabled : Obligations.ReaderStepsOnlyWhileEnabled :=
  ⟨fun _ _ _ => step_enabledRead, fun _ _ _ => step_maskedRead, fun _ h => h.maskedInInit⟩

/-! ## Reads in a row -/

/-- The reader's bytes `buf` after reads of the bytes `is` of the report `r`, in that order. -/
def readBytes (r : Report) (is : List ByteIdx) (buf : Report) : Report :=
  is.foldl (fun (b : Report) (i : ByteIdx) => b.set i r[i]) buf

/-- Reads in a row, with `IE` = 1, fill the reader's bytes from one `LAST_REPORTED`. -/
theorem run_reads {s : State} (is : List ByteIdx) {rest : List AgentStep}
    (ha : s.agenda = is.map .readerRead ++ rest) (hie : s.ie = true) :
    run is.length s = .next { s with readerBuf := readBytes s.lastReported is s.readerBuf, agenda := rest } := by
  induction is generalizing s with
  | nil => rw [List.map_nil, List.nil_append] at ha; subst ha; rfl
  | cons i is ih =>
    rw [List.length_cons, run_cons (step_enabledRead ha hie)]
    exact ih rfl hie

/-- Reads of all five bytes in a row deliver the report whole. -/
theorem readBytes_copyOrder (r buf : Report) : readBytes r copyOrder buf = r := set_all buf r

/-- One read before the baseline copy's second byte is written and four after it mix two new bytes with three old
ones (R198). -/
theorem readBytes_torn (new old buf : Report) (h0 : old[0] = new[0]) :
    readBytes (old.set 1 new[1]) [1, 2, 3, 4] (buf.set 0 old[0]) = #v[new[0], new[1], old[2], old[3], old[4]] := by
  apply Vector.ext
  intro i hi
  have : i = 0 ∨ i = 1 ∨ i = 2 ∨ i = 3 ∨ i = 4 := by omega
  rcases this with rfl | rfl | rfl | rfl | rfl <;> simp [readBytes, h0]

/-- A clock edge in COPY_REP below the last byte copies the byte at `IDX` (R158). -/
theorem step_copyRep {s : State} {rest : List AgentStep} (ha : s.agenda = .block :: rest) (hp : s.ph = phCopyRep)
    (hr : s.rst = false) (hi : s.idx ≠ 4) :
    step s = .next (goto phCopyRep { s with
      lastReported := s.lastReported.set s.idx s.lastRead[s.idx], idx := s.idx + 1, agenda := rest }) := by
  have hd : decodePhase s.ph = .ok .copyRep := by rw [hp]; rfl
  rw [step_cons ha, agentTurn, blockTurn_phase (s := { s with agenda := rest }) hr hd, exec_copyRep, if_neg hi, hp]

/-- A read of byte 0, the copy of byte 1, and reads of bytes 1 to 4 give a torn report (T5.12). -/
theorem run_torn_read {s : State} (hp : s.ph = phCopyRep) (hidx : s.idx = 1) (hie : s.ie = true) (hr : s.rst = false)
    (h0 : s.lastReported[0] = s.lastRead[0])
    (ha : s.agenda = [.readerRead 0, .block, .readerRead 1, .readerRead 2, .readerRead 3, .readerRead 4]) :
    ∃ t, run 6 s = .next t ∧ t.readerBuf =
      #v[s.lastRead[0], s.lastRead[1], s.lastReported[2], s.lastReported[3], s.lastReported[4]] := by
  have hread := step_enabledRead ha hie
  have hcopy := step_copyRep (rest := [1, 2, 3, 4].map .readerRead) (s := { s with
    readerBuf := s.readerBuf.set 0 s.lastReported[0], agenda := .block :: [1, 2, 3, 4].map .readerRead })
    rfl hp hr (by rw [hidx]; decide)
  have hrun := calc
    run 6 s = run 5 _ := run_cons hread
    _ = run 4 _ := run_cons hcopy
    _ = .next _ := run_reads [1, 2, 3, 4] (rest := []) rfl hie
  refine ⟨_, hrun, ?_⟩
  simpa [hidx] using readBytes_torn s.lastRead s.lastReported s.readerBuf h0

/-! ## Reads in a run that does not write the baseline -/

/-- A run without a writer of the baseline leaves it, and delivers it to the reader. -/
theorem delivers_of_still {n : Nat} {s t : State} (ht : run n s = .next t)
    (hstill : ∀ m u, m < n → run m s = .next u → writesBaseline u = false) :
    t.lastReported = s.lastReported ∧ Delivers s.lastReported n s t := by
  induction n generalizing s with
  | zero =>
    have hdel := delivers_of_noReads ht rfl s.lastReported
    injection ht with ht
    exact ⟨ht ▸ rfl, hdel⟩
  | succ n ih =>
    obtain ⟨u, hs, hu⟩ := run_succ_first ht
    have hq : u.lastReported = s.lastReported := step_lastReported hs (hstill 0 s n.succ_pos rfl)
    obtain ⟨hkept, hdel⟩ := ih hu fun m v hm hv => hstill (m + 1) v (by omega) ((run_cons hs).trans hv)
    exact ⟨hkept.trans hq, .cons hs (hq ▸ hdel)⟩

/-- Where each of the five bytes is read, the delivered report is the reader's. -/
theorem Delivers.whole {r : Report} {n : Nat} {s t : State} (h : Delivers r n s t) (hall : ∀ i, ReadWithin i n s) :
    t.readerBuf = r :=
  Vector.ext fun i hi => (h ⟨i, hi⟩).resolve_right fun hn => hn.2 (hall ⟨i, hi⟩)

/-- Settles O52: the torn read of T5.12, five reads in a row, and reads while the baseline stands still. -/
theorem reportReadsTornOrWhole : Obligations.ReportReadsTornOrWhole := by
  refine ⟨fun s => run_torn_read, fun s hie ha => ?_, fun n s t ht hstill => ?_⟩
  · exact ⟨_, run_reads copyOrder (rest := []) ha hie, readBytes_copyOrder s.lastReported s.readerBuf⟩
  · obtain ⟨hkept, hdel⟩ := delivers_of_still ht hstill
    refine ⟨hkept, fun hall => hdel.whole fun i => ?_⟩
    obtain ⟨m, u, rest, hm, hu, hread⟩ := hall i
    exact ⟨m, u, hm, hu, rest, hread⟩

/-! ## No reader (R205) -/

/-- A step takes one turn off the agenda, and no turn puts one on. -/
theorem step_agenda {s t : State} (hs : step s = .next t) : t.agenda = s.agenda.tail := by
  cases turn_of_step hs with
  | reset _ _ ht => subst ht; rfl
  | phase i _ _ _ ht =>
    obtain ⟨_, _, _, _, _, _, hagenda⟩ := exec_sameEnvironment ht
    exact hagenda
  | call w _ _ ht =>
    obtain ⟨_, _, _, _, _, _, hagenda⟩ := exec_sameEnvironment ht
    exact hagenda
  | other a rest _ hb ht => rw [(agentTurn_frame hb ht).1]; rfl

namespace NoReader

variable {s : State}

/-- The next step is not the reader's. -/
theorem readerSteps (h : NoReader s) : readerSteps s = false :=
  Bool.eq_false_iff.mpr fun hr => by
    obtain ⟨i, rest, ha, _⟩ := (readerSteps_iff s).mp hr
    exact h i (ha ▸ List.mem_cons_self)

/-- No step brings a reader turn. -/
theorem step {t : State} (h : NoReader s) (hs : step s = .next t) : NoReader t :=
  fun i hi => h i (List.mem_of_mem_tail (step_agenda hs ▸ hi))

/-- No run changes the reader's bytes or brings a reader turn. -/
theorem run {n : Nat} {t : State} (h : NoReader s) (ht : run n s = .next t) :
    t.readerBuf = s.readerBuf ∧ NoReader t := by
  induction n generalizing s with
  | zero => injection ht with ht; exact ht ▸ ⟨rfl, h⟩
  | succ n ih =>
    obtain ⟨u, hs, hu⟩ := run_succ_first ht
    obtain ⟨hbuf, hnone⟩ := ih (h.step hs) hu
    exact ⟨hbuf.trans (readerBuf_of_noRead hs h.readerSteps), hnone⟩

/-- A reader that never steps keeps the guard. -/
theorem guarded (h : NoReader s) : GuardedReader s :=
  guardedFrom_of_still rfl fun _ _ ht => (h.run ht).2.readerSteps

end NoReader

/-- Settles O58: the agenda only gets shorter, so it stays without a reader turn. -/
theorem noReaderNeverReads : Obligations.NoReaderNeverReads :=
  ⟨fun _ _ _ h ht => h.run ht, fun _ h => h.guarded⟩

end Machine
end Sys2Proof
end

section
/-! SUPPORT. The two control formats: decoding an encoded instruction, and which words a row of the opcode table
covers (30_encoding.md R80 to R82). -/

namespace Sys2Proof
namespace Machine

/-! ## Decoder and encoder -/

/-- Decoding an encoded instruction gives it back; a command is looked at with `D` at either value. -/
theorem decode_encode (i : Instr) : decode (encode i) = .ok i := by
  cases i with
  | init d => cases d <;> rfl
  | update d => cases d <;> rfl
  | changed d => cases d <;> rfl
  | buildReport d => cases d <;> rfl
  | _ => rfl

/-- Settles O4: the decoder on every instruction, the encoder on every word that decodes. -/
theorem decodeInvertsEncode : Obligations.DecodeInvertsEncode :=
  ⟨fun i _ => decode_encode i, fun _ _ => encode_of_decode⟩

/-- Settles O3: the words and codes of the two opcode maps, evaluated. -/
theorem opcodeWordsDecode : Obligations.OpcodeWordsDecode := by
  unfold Obligations.OpcodeWordsDecode
  exact ⟨by decide, by decide, rfl⟩

/-! ## The rows of the opcode table -/

/-- The one row, under its format's mask, that can cover a word: all CMD3 rows have mask 011 (R81), all PH4 rows
mask 0xF (R82). -/
def rowOfWord : CodeWord → Row
  | .cmd3 w => .cmd3 (w &&& 0b011#3) 0b011#3
  | .ph4 p => .ph4 (p &&& 0xF#4) 0xF#4

theorem covers_cmd3_iff (q : CmdWord) (c : CodeWord) :
    (Row.cmd3 q 0b011#3).covers c = true ↔ Row.cmd3 q 0b011#3 = rowOfWord c := by
  cases c with
  | cmd3 w => simp only [Row.covers, rowOfWord, beq_iff_eq, Row.cmd3.injEq, and_true]; exact eq_comm
  | ph4 p => simp [Row.covers, rowOfWord]

theorem covers_ph4_iff (q : PhaseCode) (c : CodeWord) :
    (Row.ph4 q 0xF#4).covers c = true ↔ Row.ph4 q 0xF#4 = rowOfWord c := by
  cases c with
  | cmd3 w => simp [Row.covers, rowOfWord]
  | ph4 p => simp only [Row.covers, rowOfWord, beq_iff_eq, Row.ph4.injEq, and_true]; exact eq_comm

/-- A row of the opcode table covers a word exactly when it is that word's row. -/
theorem tableRow_covers_iff (i : Instr) (c : CodeWord) : (tableRow i).covers c = true ↔ tableRow i = rowOfWord c := by
  cases i with
  | init _ | update _ | changed _ | buildReport _ => exact covers_cmd3_iff _ c
  | _ => exact covers_ph4_iff _ c

/-- An instruction's row is the row of its encoding. -/
theorem tableRow_eq_rowOfWord_encode (i : Instr) : tableRow i = rowOfWord (encode i) := by
  cases i with
  | init d => cases d <;> rfl
  | update d => cases d <;> rfl
  | changed d => cases d <;> rfl
  | buildReport d => cases d <;> rfl
  | _ => rfl

/-- Settles O5: a word that decodes is its instruction's encoding, so the row it names is the instruction's. -/
theorem opcodeRowsCoverOneInstruction : Obligations.OpcodeRowsCoverOneInstruction := by
  refine ⟨fun c i j h => ?_, fun j => ?_⟩
  · rw [tableRow_covers_iff, tableRow_eq_rowOfWord_encode i, encode_of_decode h]
  · cases j <;> rfl

end Machine
end Sys2Proof
end

section
/-! SUPPORT. The bytes of a sample and of a report, bit by bit (30_encoding.md R72, R75 to R78). -/

namespace Sys2Proof
namespace Machine

/-- The three row sources are concatenated and zero-extended (R72). -/
theorem assembleRaw_eq (s1 : BitVec 2) (s2 : BitVec 3) (s3 : BitVec 1) :
    assembleRaw s1 s2 s3 = (s3 ++ s2 ++ s1).setWidth 8 := by
  revert s1 s2 s3; decide

/-- Settles O18: the 64 values of the sources, and the reading they are split from. -/
theorem rawByteFromThreeSources : Obligations.RawByteFromThreeSources :=
  ⟨assembleRaw_eq, rawOfRows_eq⟩

/-- With the default places of `*` and `0`, a button's cursor is its place in packing order (R75, R77). -/
theorem pos_eq_index {cfg : Config} (hstar : cfg.posStar = 14) (hzero : cfg.posZero = 15) (b : Button) :
    cfg.pos b = b.index := by
  cases b with
  | kStar => exact hstar
  | k0 => exact hzero
  | _ => rfl

/-- One button bit shifted into a byte from the right. -/
def shiftIn (v : Byte) (b : Bool) : Byte := v <<< 1 ||| (BitVec.ofBool b).setWidth 8

/-- A packed byte is its eight buttons shifted in, the highest first. -/
theorem packByte_eq_shiftIn (btn : Vector Bool 17) (base : Fin 10) :
    packByte btn base = [btn[base.val + 7], btn[base.val + 6], btn[base.val + 5], btn[base.val + 4],
      btn[base.val + 3], btn[base.val + 2], btn[base.val + 1], btn[base.val + 0]].foldl shiftIn 0#8 := by
  simp only [packByte, bitAt, List.foldl_cons, List.foldl_nil, shiftIn, BitVec.shiftLeft_or_distrib,
    ← BitVec.shiftLeft_add, BitVec.zero_shiftLeft, BitVec.zero_or, BitVec.shiftLeft_zero, Nat.reduceAdd]
  ac_rfl

/-- Settles O27: the cursors are the places in packing order, and each byte is its buttons shifted in. -/
theorem packingOrderOfKeys : Obligations.PackingOrderOfKeys := by
  intro cfg cs hstar hzero
  simp only [pos_eq_index hstar hzero]
  exact ⟨packByte_eq_shiftIn cs.btn 0, packByte_eq_shiftIn cs.btn 8, BitVec.shiftLeft_zero _⟩

end Machine
end Sys2Proof
end

section
/-! SUPPORT. The controller's turns on its switches (41_scanner.md R110, 30_encoding.md R87). -/

namespace Sys2Proof
namespace Machine

/-- The mask of a switch has its bit and no other. -/
theorem switchMask_bit (b r : Fin 6) : (1#6 <<< b.val).getLsbD r = decide (r = b) := by
  revert b r; decide

/-- A bit of a column's switches with one of them closed, or opened. -/
theorem switchLevel_bit (v : RowBits) (closed : Bool) (b r : Fin 6) :
    (if closed then v ||| 1#6 <<< b.val else v &&& ~~~(1#6 <<< b.val)).getLsbD r =
      if r = b then closed else v.getLsbD r := by
  cases closed with
  | true =>
    simp only [↓reduceIte, BitVec.getLsbD_or, switchMask_bit]
    split <;> simp [*]
  | false =>
    simp only [Bool.false_eq_true, ↓reduceIte, BitVec.getLsbD_and, BitVec.getLsbD_not, switchMask_bit]
    split <;> simp [*]

/-- A switch set to a level: that switch has the level, every other the one it had (R110). -/
theorem setSwitchAt_bit (p : Position) (closed : Bool) (s : State) (c : Column) (r : Fin 6) :
    ((setSwitchAt p closed s).sw[c]).getLsbD r =
      if c = p.col ∧ r = p.bit then closed else (s.sw[c]).getLsbD r := by
  by_cases hc : c = p.col
  · subst hc
    have hset : (setSwitchAt p closed s).sw[p.col] =
        if closed then s.sw[p.col] ||| 1#6 <<< p.bit.val else s.sw[p.col] &&& ~~~(1#6 <<< p.bit.val) :=
      Vector.getElem_set_self p.col.isLt
    simp only [hset, switchLevel_bit, true_and]
  · have hset : (setSwitchAt p closed s).sw[c] = s.sw[c] :=
      Vector.getElem_set_ne p.col.isLt c.isLt fun h => hc (Fin.ext h.symm)
    rw [hset, if_neg fun h => hc h.1]

/-- Settles O54: a press, a release and a move set one switch, a release of all opens the 24, a supplied reading
queues. -/
theorem controllerTurnsActOnSwitches : Obligations.ControllerTurnsActOnSwitches := by
  refine ⟨fun s f closed => ?_, fun s p closed => ?_, fun s => ?_, fun _ _ => rfl⟩
  · refine ⟨_, ?_, setSwitchAt_bit (s.cfg.mapOf f) closed s⟩
    cases closed <;> rfl
  · exact ⟨_, rfl, setSwitchAt_bit p closed s⟩
  · exact ⟨State.reset.sw, rfl, by decide⟩

end Machine
end Sys2Proof
end

section
/-! SUPPORT. The block's turn with nothing on the agenda, and the three calls of `poll` (30_encoding.md R84, R88). -/

namespace Sys2Proof
namespace Machine

/-! ## The block's turn (R190, R84) -/

/-- A step with no turn on the agenda is the block's turn (R10). -/
theorem step_nil {s : State} (ha : s.agenda = []) : step s = blockTurn s := by
  unfold step; rw [ha]

/-- The block's turn under reset is the reset edge (R190). -/
theorem blockTurn_reset {s : State} (hr : s.rst = true) : blockTurn s = .next (resetEdge s) := if_pos hr

/-- Out of reset, the block's turn at `PH` = 0xF is refused (R84(b)). -/
theorem blockTurn_reserved {s : State} (hr : s.rst = false) (hp : s.ph = 0xF#4) :
    blockTurn s = .refused .reservedPhase := by
  unfold blockTurn; rw [hr, hp]; rfl

/-- Settles O8: the refusal, and the reset edge that wins over it. -/
theorem reservedPhaseIsRefused : Obligations.ReservedPhaseIsRefused := by
  intro s hp ha
  rw [step_nil ha]
  exact ⟨fun hr => blockTurn_reserved hr hp, fun hr => ⟨resetEdge s, blockTurn_reset hr, rfl⟩⟩

/-! ## The calls of `poll` (R88(b)) -/

/-- A command started in IDLE is its composite (R150). -/
theorem command_idle {s : State} (w : CmdWord) (f : State → State) (hp : s.ph = phIdle) :
    command w f s = .next (finish (f (latch w s))) := if_pos hp

/-- The raw samples of a scan, by column. -/
theorem scanRaw_getElem (s : State) (c : Column) : (scanRaw s)[c] = (reading s c).setWidth 8 := by
  fin_cases c <;> rfl

/-- The answer of CHANGED: a first call, or two reports that differ (R155). -/
theorem changedAnswer_iff (first : Bool) (a b : Report) : changedAnswer first a b = true ↔ first = true ∨ a ≠ b := by
  rw [changedAnswer, Bool.or_eq_true, reportsDiffer_iff]

/-- A whole UPDATE in IDLE (R153). -/
theorem exec_update_idle {s : State} (d : Bool) (hp : s.ph = phIdle) : exec (.update d) s =
    .next { acquired s with cmdQ := cmdWordOf 0b01#2 d, ph := phIdle, done := true } := by
  rw [exec_update, command_idle _ _ hp, acquire_eq]; rfl

/-- A whole CHANGED in IDLE (R154). -/
theorem exec_changed_idle {s : State} (d : Bool) (hp : s.ph = phIdle) : exec (.changed d) s =
    .next { s with
      changedQ := changedAnswer s.first s.lastRead s.lastReported, first := false
      cmdQ := cmdWordOf 0b10#2 d, ph := phIdle, done := true } := by
  rw [exec_changed, command_idle _ _ hp]; rfl

/-- A whole BUILDREPORT in IDLE (R156). -/
theorem exec_buildReport_idle {s : State} (d : Bool) (hp : s.ph = phIdle) : exec (.buildReport d) s =
    .next { s with
      dest := if d then s.lastRead else s.dest, lastReported := s.lastRead, idx := 4
      nwritten := writtenCount s.cfg d, cmdQ := cmdWordOf 0b11#2 d, ph := phIdle, done := true } := by
  rw [exec_buildReport, command_idle _ _ hp, buildCopies_eq]; rfl

/-- The state of `poll` after its UPDATE (R88(b), R153). -/
def pollUpdated (s : State) : State := { acquired s with
  cmdQ := cmdWordOf 0b01#2 false, ph := phIdle, done := true
  agenda := [.invoke 0b010#3, .invokeIfChanged 0b111#3] }

/-- The state of `poll` after its CHANGED, where it branches (R88(b), R154). -/
def pollCompared (s : State) : State := { pollUpdated s with
  changedQ := changedAnswer s.first (pollUpdated s).lastRead s.lastReported, first := false
  cmdQ := cmdWordOf 0b10#2 false, agenda := [.invokeIfChanged 0b111#3] }

/-- `poll` from IDLE comes to its branch in two calls. -/
theorem run_two_poll {s : State} (hp : s.ph = phIdle) (hr : s.rst = false) (ha : s.agenda = Line.turns .poll) :
    run 2 s = .next (pollCompared s) := by
  obtain ⟨_, _, hcall, _⟩ := stepRunsDecodedInstruction
  have hupdate : step s = .next (pollUpdated s) := (hcall s _ _ hr ha).trans (exec_update_idle false hp)
  have hchanged : step (pollUpdated s) = .next (pollCompared s) :=
    (hcall (pollUpdated s) _ _ hr rfl).trans (exec_changed_idle false rfl)
  rw [run_cons hupdate, run_one hchanged]

/-- Settles O53: after UPDATE and CHANGED the branch, taken or not; not taken, the baseline is the report already. -/
theorem pollDeliversOnlyChanges : Obligations.PollDeliversOnlyChanges := by
  intro s hp hr ha
  have htwo := run_two_poll hp hr ha
  obtain ⟨_, _, _, hbranch⟩ := stepRunsDecodedInstruction
  have hthird := hbranch (pollCompared s) _ _ hr rfl
  have hanswer : (pollCompared s).changedQ = true ↔ s.first = true ∨ (pollCompared s).lastRead ≠ s.lastReported :=
    changedAnswer_iff ..
  cases hq : (pollCompared s).changedQ with
  | true =>
    have hbuild := (hthird.trans (if_pos hq)).trans (exec_buildReport_idle true rfl)
    exact ⟨_, scanRaw s, (run_add htwo).trans (run_one hbuild), rfl, rfl, rfl, scanRaw_getElem s, rfl, rfl, rfl,
      hanswer, fun _ => ⟨rfl, rfl⟩, fun h => absurd hq (Bool.eq_false_iff.mp h)⟩
  | false =>
    have hpassed := hthird.trans (if_neg (Bool.eq_false_iff.mp hq))
    have hsame : s.lastReported = (pollCompared s).lastRead := by
      by_contra hne
      exact Bool.eq_false_iff.mp hq (hanswer.mpr (.inr (Ne.symm hne)))
    exact ⟨_, scanRaw s, (run_add htwo).trans (run_one hpassed), rfl, rfl, rfl, scanRaw_getElem s, rfl, rfl, hsame,
      hanswer, fun h => absurd h (Bool.eq_false_iff.mp hq), fun _ => ⟨rfl, rfl, rfl⟩⟩

end Machine
end Sys2Proof
end

section
/-! SUPPORT. The column pull-ups from the first completed scan on (41_scanner.md R109). -/

namespace Sys2Proof
namespace Machine

/-! ## What a step inside a command leaves of the command -/

/-- Of the micro-operations only IDLE writes `CMD_Q` (R30). -/
theorem phase_cmdQ {p : PhaseCode} {i : Instr} {s t : State} (hi : decodePhase p = .ok i) (ht : exec i s = .next t)
    (hidle : i ≠ .idle) : t.cmdQ = s.cmdQ := by
  by_contra hne
  obtain ⟨_, _, _, _, _, _, _, _, _, _, _, _, _, _, hcmdQ, _⟩ := registersHaveTheirWriters i s t ht
  rcases hcmdQ hne with rfl | ⟨w, rfl⟩
  · exact hidle rfl
  · have he := encode_of_decodePhase hi
    rw [encode_decodeCmd] at he
    cases he

/-- A micro-operation that comes to IDLE from another phase ends a command: it raises `done` (R152). -/
theorem phase_done {s t : State} {i : Instr} (hi : decodePhase s.ph = .ok i) (ht : exec i s = .next t)
    (hs : s.ph ≠ phIdle) (hp : t.ph = phIdle) : t.done = true := by
  have he := encode_of_decodePhase hi
  cases i
  case init | update | changed | buildReport => cases he
  case idle => injection he with he; exact absurd he.symm hs
  case settle =>
    injection ht with ht; subst ht
    rw [goto_ph] at hp
    split at hp
    · exact absurd hp hs
    · cases hp
  case releasePu => rw [exec_releasePu] at ht; injection ht with ht; subst ht; split at hp <;> cases hp
  case pack =>
    rw [exec_pack] at ht; injection ht with ht; subst ht
    split at hp
    · cases hp
    · next hw => rw [if_neg hw]; rfl
  case copyDest =>
    rw [exec_copyDest] at ht; injection ht with ht; subst ht
    split at hp
    · cases hp
    · exact absurd hp hs
  case copyRep =>
    rw [exec_copyRep] at ht; injection ht with ht; subst ht
    split at hp
    · next h4 => rw [if_pos h4]; rfl
    · exact absurd hp hs
  case restoreIe | chg => injection ht with ht; subst ht; rfl
  all_goals (injection ht with ht; subst ht; cases hp)

/-- Every pull-up is on. -/
abbrev AllPulledUp (s : State) : Prop := ∀ c : Column, s.colPue[c] = true

/-- A whole INIT or UPDATE leaves every pull-up on (R109(b)). -/
theorem scan_allPulledUp {d : Bool} {s t : State} (ht : exec (.init d) s = .next t ∨ exec (.update d) s = .next t) :
    AllPulledUp t := by
  rcases ht with ht | ht
  · obtain ⟨_, rfl⟩ := init_cases ht
    intro c; simp [acquired]
  · obtain ⟨_, rfl⟩ := update_cases ht
    intro c; simp [acquired]

/-- No instruction but CFG_PINS takes a pull-up off (R100, R106). -/
theorem exec_allPulledUp {i : Instr} {s t : State} (h : AllPulledUp s) (ht : exec i s = .next t)
    (hcfg : i ≠ .cfgPins) : AllPulledUp t := by
  obtain ⟨_, _, _, _, _, _, _, _, _, _, hpue, _⟩ := registersHaveTheirWriters i s t ht
  by_cases hsame : t.colPue = s.colPue
  · intro c; rw [hsame]; exact h c
  rcases hpue hsame with rfl | rfl | ⟨d, rfl | rfl⟩
  · exact absurd rfl hcfg
  · rw [exec_releasePu] at ht; injection ht with ht; subst ht
    split <;> exact PinsInv.pulledUp_all h
  · exact scan_allPulledUp (.inl ht)
  · exact scan_allPulledUp (.inr ht)

/-! ## Every step keeps the pull-ups, INIT's own scan apart -/

namespace PullUpsKept

variable {s t : State}

/-- Outside INIT every pull-up is on. -/
theorem allPulledUp (h : PullUpsKept s) (hout : opOf s.cmdQ ≠ 0b00#2 ∨ s.ph = phIdle) : AllPulledUp s :=
  h.resolve_right fun ⟨hw, hp⟩ => hout.elim (· hw) hp

/-- INIT's phases: it goes on, or it ends with every pull-up on. -/
theorem phase_init {i : Instr} (hinv : BlockInv s) (hw : opOf s.cmdQ = 0b00#2) (hp : s.ph ≠ phIdle)
    (hi : decodePhase s.ph = .ok i) (ht : exec i s = .next t) : PullUpsKept t := by
  have hidle : i ≠ .idle := by
    rintro rfl
    exact hp (CodeWord.ph4.inj (encode_of_decodePhase hi)).symm
  have hw' : opOf t.cmdQ = 0b00#2 := by rw [phase_cmdQ hi ht hidle]; exact hw
  by_cases htp : t.ph = phIdle
  · exact .inl ((hinv.phase hi ht).released htp (phase_done hi ht hp htp) (.inl hw'))
  · exact .inr ⟨hw', htp⟩

/-- The micro-operation that `PH` names keeps the pull-ups; CFG_PINS is one of INIT's. -/
theorem phase {i : Instr} (h : PullUpsKept s) (hinv : BlockInv s) (hi : decodePhase s.ph = .ok i)
    (ht : exec i s = .next t) : PullUpsKept t := by
  by_cases hinit : opOf s.cmdQ = 0b00#2 ∧ s.ph ≠ phIdle
  · exact phase_init hinv hinit.1 hinit.2 hi ht
  · refine .inl (exec_allPulledUp (h.resolve_right hinit) ht ?_)
    rintro rfl
    have hp : s.ph = phCfgPins := (CodeWord.ph4.inj (encode_of_decodePhase hi)).symm
    have fits : ∀ w, phaseFits phCfgPins w = true → opOf w = 0b00#2 := by decide
    exact hinit ⟨fits _ (hinv.fits hp fun _ => id), by rw [hp]; decide⟩

/-- A whole command keeps the pull-ups: it starts in IDLE, outside INIT. -/
theorem call {w : CmdWord} (h : PullUpsKept s) (ht : exec (decodeCmd w) s = .next t) : PullUpsKept t := by
  refine .inl (exec_allPulledUp (h.allPulledUp (.inr (call_idle ht))) ht fun hcfg => ?_)
  have he := encode_decodeCmd w
  rw [hcfg] at he
  cases he

/-- Out of reset, every step of every agent keeps the pull-ups. -/
theorem step (h : PullUpsKept s) (hinv : BlockInv s) (hr : s.rst = false) (hs : step s = .next t) :
    PullUpsKept t := by
  cases turn_of_step hs with
  | reset hr' _ _ => exact absurd hr' (Bool.eq_false_iff.mp hr)
  | phase i _ _ hi ht => exact phase (s := turnTaken s) h hinv.turnTaken hi ht
  | call w _ _ ht => exact call (s := turnTaken s) h ht
  | other a rest _ hb ht => rw [(agentTurn_frame hb ht).1]; exact h

end PullUpsKept

/-- Settles O56: a scan ends with every pull-up on; only CFG_PINS takes them off, and an INIT ends as a scan does. -/
theorem pullUpsStayOnOutsideInit : Obligations.PullUpsStayOnOutsideInit :=
  ⟨fun _ _ hinv h hr hs => h.step hinv hr hs, fun _ _ _ ht => .inl (scan_allPulledUp ht),
    fun _ hinv hp hd hw => .inl (hinv.released hp hd hw)⟩

end Machine
end Sys2Proof
end

section
/-! SUPPORT. The pad of a column by its three bits (10_state.md R27), the micro-operations that drive and release
it (41_scanner.md R100 to R106), and what the invariant says of it (R109). -/

namespace Sys2Proof
namespace Machine

/-! ## The pad of a column (R27) -/

/-- A pad by its direction, then by its level or its pull-up. -/
theorem pad_eq (s : State) (c : Column) : pad s c =
    if s.colDir[c] then (if s.colLvl[c] then .high else .low) else if s.colPue[c] then .pullUp else .floating := by
  unfold pad
  cases s.colDir[c] <;> cases s.colLvl[c] <;> cases s.colPue[c] <;> rfl

/-- What a pad depends on. -/
theorem pad_congr {s t : State} {c : Column} (hdir : t.colDir[c] = s.colDir[c]) (hlvl : t.colLvl[c] = s.colLvl[c])
    (hpue : t.colPue[c] = s.colPue[c]) : pad t c = pad s c := by
  rw [pad_eq, pad_eq, hdir, hlvl, hpue]

/-- The pad of an input is its pull-up or nothing. -/
theorem pad_input {s : State} {c : Column} (hdir : s.colDir[c] = false) :
    pad s c = if s.colPue[c] then .pullUp else .floating := by
  rw [pad_eq, hdir]; rfl

/-- An input with its pull-up on. -/
theorem pad_pullUp {s : State} {c : Column} (hdir : s.colDir[c] = false) (hpue : s.colPue[c] = true) :
    pad s c = .pullUp := by
  rw [pad_input hdir, if_pos hpue]

/-- An input without its pull-up. -/
theorem pad_floating {s : State} {c : Column} (hdir : s.colDir[c] = false) (hpue : ¬ s.colPue[c] = true) :
    pad s c = .floating := by
  rw [pad_input hdir, if_neg hpue]

/-- With its level bit low a pad is L exactly in output mode. -/
theorem pad_low_iff {s : State} {c : Column} (hlvl : s.colLvl[c] = false) : pad s c = .low ↔ s.colDir[c] = true := by
  rw [pad_eq, hlvl]
  cases s.colDir[c] <;> cases s.colPue[c] <;> simp

/-- With its level bit low a pad is never H. -/
theorem pad_ne_high {s : State} {c : Column} (hlvl : s.colLvl[c] = false) : pad s c ≠ .high := by
  rw [pad_eq, hlvl]
  cases s.colDir[c] <;> cases s.colPue[c] <;> simp

/-! ## The micro-operations on the pins (R100 to R106) -/

/-- Settles O13: with every column an input without pull-up, every pad is Z. -/
theorem cfgPinsFloatsColumns : Obligations.CfgPinsFloatsColumns := by
  intro s
  exact ⟨_, rfl, fun c => pad_floating (by simp) (by simp), rfl⟩

/-- Settles O14: clearing a level that is low already changes no pad. -/
theorem strobeLowClearsLevel : Obligations.StrobeLowClearsLevel := by
  refine fun s => ⟨_, rfl, rfl, fun hlow => ?_⟩
  have hsame : s.colLvl.set s.col false = s.colLvl := by
    have hcol : s.colLvl[s.col.val] = false := hlow s.col
    rw [← hcol]; exact Vector.set_getElem_self _
  exact ⟨hsame, fun c => pad_congr rfl (congrArg (·[c]) hsame) rfl⟩

/-- Settles O15: only the current column's direction changes. -/
theorem strobeOutDrivesColumn : Obligations.StrobeOutDrivesColumn := by
  have hdir (s : State) (c : Column) :
      (goto phSettle (driveColumn s)).colDir[c] = if c = s.col then true else s.colDir[c] := colBit_set ..
  refine fun s => ⟨goto phSettle (driveColumn s), rfl, rfl, fun hlvl => ?_, fun c hc => ?_, fun hothers c => ?_⟩
  · exact (pad_low_iff (s := goto phSettle (driveColumn s)) hlvl).mpr (by rw [hdir, if_pos rfl])
  · exact pad_congr (by rw [hdir, if_neg hc]) rfl rfl
  · rw [hdir]
    by_cases hc : c = s.col
    · simp [hc]
    · simp [hc, hothers c hc]

/-- Settles O20: an input's pad is its pull-up or Z. -/
theorem releaseInStopsDriving : Obligations.ReleaseInStopsDriving :=
  fun s => ⟨_, rfl, rfl, pad_input (s := goto phReleasePu (releaseColumn s)) ((colBit_set ..).trans (if_pos rfl))⟩

/-- A column below the last has a next one. -/
theorem val_succ_col {c : Column} (hc : c ≠ 3) : (c + 1).val = c.val + 1 := by
  revert c; decide

/-- Settles O21: the two outcomes of RELEASE_PU. -/
theorem releasePuAdvancesScan : Obligations.ReleasePuAdvancesScan := by
  refine ⟨fun s hc => ?_, fun s hc => ⟨s.col + 1, val_succ_col hc, ?_⟩⟩
  · rw [exec_releasePu, if_pos hc]; rfl
  · rw [exec_releasePu, if_neg hc]; rfl

/-! ## The pads in a state of the invariant (R109) -/

namespace BlockInv

variable {s : State}

/-- A column is in output mode only where it is the current one and driven. -/
theorem colDir_false (h : BlockInv s) {c : Column} (hc : ¬ (c = s.col ∧ driving s.ph = true)) : s.colDir[c] = false :=
  Bool.eq_false_iff.mpr fun hd => hc ((h.oneColumn c).mp hd)

/-- In IDLE no column is in output mode. -/
theorem colDir_idle (h : BlockInv s) (hp : s.ph = phIdle) (c : Column) : s.colDir[c] = false :=
  (h.pins hp).inputs rfl c

/-- A pad is L exactly for the current column while it is driven (R109(a)). -/
theorem pad_low (h : BlockInv s) (c : Column) : pad s c = .low ↔ (c = s.col ∧ driving s.ph = true) :=
  (pad_low_iff (h.levelsLow c)).trans (h.oneColumn c)

/-- In IDLE every pull-up is on or every one is off (R109(e)). -/
theorem pads_idle (h : BlockInv s) (hp : s.ph = phIdle) :
    (∀ c, pad s c = .floating) ∨ (∀ c, pad s c = .pullUp) := by
  rcases (h.pins hp).pullUps with hon | hoff
  · exact .inr fun c => pad_pullUp (h.colDir_idle hp c) (hon c)
  · exact .inl fun c => pad_floating (h.colDir_idle hp c) (by simp [hoff.2 c])

/-- Where exactly the columns already released have their pull-ups, those are PU and the columns to come are Z
(R109(c)). -/
theorem pads_released (h : BlockInv s) (hpue : ∀ c : Column, s.colPue[c] = true ↔ c < s.col) (c : Column) :
    (c < s.col → pad s c = .pullUp) ∧ (s.col < c → pad s c = .floating) := by
  refine ⟨fun hc => pad_pullUp ?_ ((hpue c).mpr hc), fun hc => pad_floating ?_ fun hon => ?_⟩
  · exact h.colDir_false fun hd => absurd hd.1 (ne_of_lt hc)
  · exact h.colDir_false fun hd => absurd hd.1 (ne_of_gt hc)
  · exact absurd ((hpue c).mp hon) (lt_asymm hc)

/-- With every pull-up on, the columns other than the current one are PU. -/
theorem pads_others (h : BlockInv s) (hon : AllPulledUp s) (c : Column) (hc : c ≠ s.col) : pad s c = .pullUp :=
  pad_pullUp (h.colDir_false fun hd => hc hd.1) (hon c)

/-- At a SAMPLE the other columns are PU, or those released are and those to come are Z (R109(c), R106). -/
theorem pads_sample (h : BlockInv s) (hp : s.ph = phSample) : (∀ c, c ≠ s.col → pad s c = .pullUp) ∨
    (∀ c, (c < s.col → pad s c = .pullUp) ∧ (s.col < c → pad s c = .floating)) :=
  (h.pins hp).pullUps.imp h.pads_others h.pads_released

end BlockInv

/-- The phases in which a column is driven, by their codes (R82). -/
theorem driving_iff (p : PhaseCode) : driving p = true ↔ p = 0x5#4 ∨ p = 0x6#4 ∨ p = 0x7#4 := by
  revert p; decide

/-- Settles O42: each clause from the fields of the invariant about the pins. -/
theorem invariantGivesPinSafety : Obligations.InvariantGivesPinSafety := by
  intro s h
  refine ⟨fun c c' hc hc' => ?_, fun c => pad_ne_high (h.levelsLow c), fun c => ?_, h.pads_idle, fun hp hk c => ?_,
    fun hp hw => ?_, fun hp _ => h.pads_sample hp, fun _ hw hk => h.pads_others (hk.allPulledUp (.inl hw)),
    fun hp hd hw c => ?_⟩
  · exact ((h.oneColumn c).mp hc).1.trans ((h.oneColumn c').mp hc').1.symm
  · rw [← driving_iff]; exact h.pad_low c
  · exact pad_pullUp (h.colDir_idle hp c) (hk.allPulledUp (.inr hp) c)
  · exact h.pads_released (h.initFloats hw (by rw [hp]; rfl))
  · exact pad_pullUp (h.colDir_idle hp c) (h.released hp hd hw c)

end Machine
end Sys2Proof
end

section
/-! SUPPORT. The hold of a column (41_scanner.md R103). -/

namespace Sys2Proof
namespace Machine

/-- One clock of SETTLE (R103). -/
theorem exec_settle (s : State) : exec .settle s = .next (goto (if s.settleCnt > 1 then s.ph else phSample)
    { s with settleCnt := settleTick s.settleCnt }) := rfl

/-- A clock of the hold above 1 counts down and stays. -/
theorem exec_settle_stay {s : State} (h : s.settleCnt > 1) :
    exec .settle s = .next { s with settleCnt := s.settleCnt - 1, done := false } := by
  rw [exec_settle, if_pos h, settleTick, if_pos h]; rfl

/-- The last clock of the hold goes on to SAMPLE. -/
theorem exec_settle_end {s : State} (h : ¬ s.settleCnt > 1) :
    exec .settle s = .next { s with ph := 0x6#4, done := false } := by
  rw [exec_settle, if_neg h, settleTick, if_neg h]; rfl

/-- A block in SETTLE with no other agent's turn to come and the reset input low. -/
structure Holding (s : State) : Prop where
  ph : s.ph = phSettle
  agenda : s.agenda = []
  rst : s.rst = false

namespace Holding

variable {s : State}

/-- The next step is a clock of the hold. -/
theorem step (h : Holding s) : step s = exec .settle s := by
  rw [step_nil h.agenda, blockTurn_phase h.rst (i := .settle) (by rw [h.ph]; rfl)]

/-- The hold with its counter one lower. -/
theorem ticked (h : Holding s) : Holding { s with settleCnt := s.settleCnt - 1, done := false } :=
  ⟨h.ph, h.agenda, h.rst⟩

/-- Before its last clock the hold stands in SETTLE, the counter one lower for each clock. -/
theorem run_inside (h : Holding s) {k : Nat} (hk : k < s.settleCnt) :
    ∃ t, run k s = .next t ∧ t.ph = phSettle ∧ t.settleCnt = s.settleCnt - k := by
  induction k generalizing s with
  | zero => exact ⟨s, rfl, h.ph, rfl⟩
  | succ k ih =>
    have hstep := h.step.trans (exec_settle_stay (by omega))
    obtain ⟨t, ht, hp, hc⟩ := ih h.ticked (Nat.lt_sub_of_add_lt hk)
    exact ⟨t, (run_cons hstep).trans ht, hp, by rw [hc, Nat.sub_sub, Nat.add_comm]⟩

/-- The hold ends in SAMPLE after as many clocks as its counter says, which then stands at 1. -/
theorem run_whole (h : Holding s) {n : Nat} (hn : s.settleCnt = n + 1) :
    run (n + 1) s = .next { s with settleCnt := 1, ph := 0x6#4, done := false } := by
  induction n generalizing s with
  | zero =>
    have hone : s.settleCnt = 1 := hn
    rw [run_one (h.step.trans (exec_settle_end (by omega))), ← hone]
  | succ n ih =>
    have hstep := h.step.trans (exec_settle_stay (by omega))
    rw [run_cons hstep]
    exact ih h.ticked (by simp [hn])

end Holding

/-- Settles O16: the two outcomes of a clock, the hold by induction on its counter, and R7's condition on time. -/
theorem settleHoldsForItsClocks : Obligations.SettleHoldsForItsClocks := by
  refine ⟨fun _ => exec_settle_stay, fun _ => exec_settle_end, fun s hp ha hr hn => ?_, fun c hc => ?_⟩
  · have hold : Holding s := ⟨hp, ha, hr⟩
    obtain ⟨n, hn⟩ := Nat.exists_eq_add_of_le' hn
    exact ⟨fun k hk => hold.run_inside hk, hn ▸ hold.run_whole hn⟩
  · obtain ⟨_, _, _, _, _, ⟨_, htime⟩, _⟩ := hc
    exact htime

end Machine
end Sys2Proof
end

section
/-! SUPPORT. The row read (41_scanner.md R104, R110), and the launch premise on the ideal controller
(70_reset_and_hazards.md R205). -/

namespace Sys2Proof
namespace Machine

/-! ## One row read (R110) -/

/-- With row pull-ups the ideal controller's lines are the complement of its closures. -/
theorem idealRows_pulledUp (sw floating : RowBits) : idealRows sw true floating = ~~~sw :=
  BitVec.and_allOnes

/-- The ideal controller's row read with row pull-ups. -/
theorem pinRead_idealRows {s : State} (h : IdealRows s) : pinRead s = ~~~s.sw[s.col] := by
  rw [pinRead, h.1, h.2]; exact idealRows_pulledUp ..

/-- A reading of a scan under the ideal controller with row pull-ups. -/
theorem reading_idealRows {s : State} (h : IdealRows s) (c : Column) : reading s c = ~~~s.sw[c] := by
  rw [reading, h.1, h.2]; exact idealRows_pulledUp ..

/-- SAMPLE (R104). -/
theorem exec_sample (s : State) : exec .sample s = .next { s with
    raw := s.raw.set s.col ((pinRead s).setWidth 8), rowsIn := rowsLeft s, draws := s.draws + 1
    ph := 0x7#4, done := false } := by
  rw [← rawOfRows_eq]; rfl

/-- Settles O17: the reading's three sources are its zero-extension, and a supplied reading leaves the queue. -/
theorem sampleStoresRowReading : Obligations.SampleStoresRowReading := by
  refine ⟨exec_sample, fun s v rest hk hr => ⟨pinRead_supplied hk hr, ?_⟩⟩
  rw [rowsLeft, hk, hr]; rfl

/-- Settles O19: the ideal controller line by line, the other by its queue. -/
theorem idealControllerReading : Obligations.IdealControllerReading := by
  intro s
  refine ⟨fun hk r => ?_, fun hk => ⟨fun v rest hr => pinRead_supplied hk hr, fun hr => ?_⟩⟩
  · rw [pinRead_ideal_bit hk]
    exact ⟨fun hc => by rw [hc]; rfl, fun ho hpu => by rw [ho, hpu]; rfl,
      fun ho hpu => by rw [ho, hpu]; exact Bool.false_or _⟩
  · rw [pinRead, hk, hr]

/-! ## Every SAMPLE under IdealController (R205) -/

/-- A whole INIT in IDLE (R159). -/
theorem exec_init_idle {s : State} (d : Bool) (hp : s.ph = phIdle) : exec (.init d) s =
    .next { acquired { s with rowPue := true } with
      ieSaved := s.ie, first := firstAfterInit s.cfg s.first
      cmdQ := cmdWordOf 0b00#2 d, ph := phIdle, done := true } := by
  rw [exec_init, command_idle _ _ hp, acquire_eq]; rfl

/-- A word of INIT's or UPDATE's operation decodes to that command (R81). -/
theorem decodeCmd_init : ∀ w : CmdWord, opOf w = 0b00#2 → decodeCmd w = .init (destSupplied w) := by decide
theorem decodeCmd_update : ∀ w : CmdWord, opOf w = 0b01#2 → decodeCmd w = .update (destSupplied w) := by decide

/-- The raw samples of a scan under the ideal controller with row pull-ups. -/
theorem scanRaw_idealRows {s : State} (h : IdealRows s) (c : Column) : (scanRaw s)[c] = (~~~s.sw[c]).setWidth 8 := by
  rw [scanRaw_getElem, reading_idealRows h]

/-- Out of reset, the block's turn in SAMPLE samples (R104). -/
theorem step_sample {s : State} (hr : s.rst = false) (hp : s.ph = phSample) (hn : BlockNext s) :
    ∃ t, step s = .next t ∧ t.raw = s.raw.set s.col ((pinRead s).setWidth 8) := by
  obtain ⟨hnil, hblock, _⟩ := stepRunsDecodedInstruction
  have hi : decodePhase s.ph = .ok .sample := by rw [hp]; rfl
  rcases hn with ha | ⟨rest, ha⟩
  · exact ⟨_, (hnil s _ hr ha hi).trans (exec_sample s), rfl⟩
  · exact ⟨_, (hblock s _ rest hr ha hi).trans (exec_sample _), rfl⟩

/-- The next turn is a SAMPLE. -/
theorem samplesNext_sample {s : State} (hr : s.rst = false) (hp : s.ph = phSample) (hn : BlockNext s) :
    samplesNext s = true := by
  rcases hn with ha | ⟨rest, ha⟩ <;> simp [samplesNext, hr, ha, hp]

/-- The next turn is a whole UPDATE exactly where the driver calls its word. -/
theorem samplesNext_invoke {s : State} {w : CmdWord} {rest : List AgentStep} (hr : s.rst = false)
    (ha : s.agenda = .invoke w :: rest) : samplesNext s = (opOf w == 0b01#2) := by
  simp [samplesNext, hr, ha]

/-- The call of a whole INIT: it scans with the row pull-ups on, and leaves them on (R159, R100). -/
theorem step_invoke_init {s : State} {w : CmdWord} {rest : List AgentStep} (hr : s.rst = false) (hp : s.ph = phIdle)
    (ha : s.agenda = .invoke w :: rest) (hw : opOf w = 0b00#2) :
    ∃ t, step s = .next t ∧ t.raw = scanRaw { s with rowPue := true } ∧ t.rowPue = true := by
  obtain ⟨_, _, hcall, _⟩ := stepRunsDecodedInstruction
  have hstep := hcall s w rest hr ha
  rw [decodeCmd_init w hw, exec_init_idle (s := { s with agenda := rest }) _ hp] at hstep
  exact ⟨_, hstep, rfl, rfl⟩

/-- The call of a whole UPDATE (R153). -/
theorem step_invoke_update {s : State} {w : CmdWord} {rest : List AgentStep} (hr : s.rst = false) (hp : s.ph = phIdle)
    (ha : s.agenda = .invoke w :: rest) (hw : opOf w = 0b01#2) : ∃ t, step s = .next t ∧ t.raw = scanRaw s := by
  obtain ⟨_, _, hcall, _⟩ := stepRunsDecodedInstruction
  have hstep := hcall s w rest hr ha
  rw [decodeCmd_update w hw, exec_update_idle (s := { s with agenda := rest }) _ hp] at hstep
  exact ⟨_, hstep, rfl⟩

/-- A whole INIT or UPDATE called under the ideal controller, with row pull-ups for UPDATE, stores every column's
switches. -/
theorem step_scan_idealRows {s : State} {w : CmdWord} {rest : List AgentStep} (hk : s.controller = .ideal)
    (hr : s.rst = false) (hp : s.ph = phIdle) (ha : s.agenda = .invoke w :: rest)
    (hw : opOf w = 0b00#2 ∨ (opOf w = 0b01#2 ∧ s.rowPue = true)) :
    ∃ t, step s = .next t ∧ ∀ c : Column, t.raw[c] = (~~~s.sw[c]).setWidth 8 := by
  rcases hw with hw | ⟨hw, hpu⟩
  · obtain ⟨t, ht, hraw, _⟩ := step_invoke_init hr hp ha hw
    exact ⟨t, ht, hraw ▸ scanRaw_idealRows (s := { s with rowPue := true }) ⟨hk, rfl⟩⟩
  · obtain ⟨t, ht, hraw⟩ := step_invoke_update hr hp ha hw
    exact ⟨t, ht, hraw ▸ scanRaw_idealRows ⟨hk, hpu⟩⟩

/-! ## Where IdealController holds (R205) -/

/-- A predicate that every step keeps holds throughout. -/
theorem throughout_of_kept {P : State → Prop} (hkept : ∀ s t, P s → step s = .next t → P t) {s : State} (h : P s) :
    Throughout P s := by
  intro n t ht
  induction n generalizing s with
  | zero => injection ht with ht; exact ht ▸ h
  | succ n ih =>
    obtain ⟨u, hs, hu⟩ := run_succ_first ht
    exact ih (hkept s u h hs) hu

/-- No step changes which controller is wired (R110). -/
theorem step_controller {s t : State} (hs : step s = .next t) : t.controller = s.controller := by
  cases turn_of_step hs with
  | reset _ _ ht => subst ht; rfl
  | phase i _ _ _ ht =>
    obtain ⟨_, _, _, hk, _⟩ := exec_sameEnvironment ht
    exact hk
  | call w _ _ ht =>
    obtain ⟨_, _, _, hk, _⟩ := exec_sameEnvironment ht
    exact hk
  | other a rest _ hb ht => rw [(agentTurn_frame hb ht).1]; rfl

/-- Only a turn on the reset line changes the reset input (R190). -/
theorem step_rst {s t : State} (hs : step s = .next t) : t.rst = s.rst ∨ AgentStep.driveReset t.rst ∈ s.agenda := by
  cases turn_of_step hs with
  | reset _ _ ht => subst ht; exact .inl rfl
  | phase i _ _ _ ht => exact .inl (exec_sameEnvironment ht).1
  | call w _ _ ht => exact .inl (exec_sameEnvironment ht).1
  | other a rest ha hb ht =>
    obtain ⟨_, _, hrst, _⟩ := otherAgentsLeaveTheBlockAlone a _ t ht hb.notBlock hb.notCall hb.branchNotTaken
    by_cases hsame : t.rst = s.rst
    · exact .inl hsame
    · exact .inr (by rw [ha, hrst hsame]; exact List.mem_cons_self)

/-- No instruction turns the row pull-ups off (R28). -/
theorem exec_rowPue {i : Instr} {s t : State} (h : s.rowPue = true) (ht : exec i s = .next t) : t.rowPue = true := by
  obtain ⟨_, _, _, _, _, _, _, _, _, _, _, hrow, _⟩ := registersHaveTheirWriters i s t ht
  by_cases hsame : t.rowPue = s.rowPue
  · rw [hsame]; exact h
  rcases hrow hsame with rfl | ⟨d, rfl⟩
  · injection ht with ht; subst ht; rfl
  · obtain ⟨_, rfl⟩ := init_cases ht; rfl

/-- The ideal controller, no reset asserted and none to come. -/
structure IdealUnreset (s : State) : Prop where
  controller : s.controller = .ideal
  rst : s.rst = false
  noReset : AgentStep.driveReset true ∉ s.agenda

namespace IdealUnreset

variable {s t : State}

theorem step (h : IdealUnreset s) (hs : step s = .next t) : IdealUnreset t where
  controller := (step_controller hs).trans h.controller
  rst := (step_rst hs).elim (·.trans h.rst) fun hm =>
    Bool.eq_false_iff.mpr fun hr => h.noReset (hr ▸ hm)
  noReset hm := h.noReset (List.mem_of_mem_tail (step_agenda hs ▸ hm))

/-- Without a reset the row pull-ups stay on. -/
theorem step_rowPue (h : IdealUnreset s) (hpu : s.rowPue = true) (hs : Machine.step s = .next t) :
    t.rowPue = true := by
  cases turn_of_step hs with
  | reset hr _ _ => exact absurd hr (Bool.eq_false_iff.mp h.rst)
  | phase i _ _ _ ht => exact exec_rowPue (s := turnTaken s) hpu ht
  | call w _ _ ht => exact exec_rowPue (s := turnTaken s) hpu ht
  | other a rest _ hb ht => rw [(agentTurn_frame hb ht).1]; exact hpu

/-- With the row pull-ups on, the premise holds. -/
theorem idealController (h : IdealUnreset s) (hpu : s.rowPue = true) : IdealController s := fun n t ht =>
  have hkept : ∀ u v, (IdealUnreset u ∧ u.rowPue = true) → Machine.step u = .next v →
      IdealUnreset v ∧ v.rowPue = true :=
    fun _ _ ⟨hu, hpu⟩ hs => ⟨hu.step hs, hu.step_rowPue hpu hs⟩
  have ⟨ht, hpu⟩ := throughout_of_kept hkept ⟨h, hpu⟩ n t ht
  ⟨ht.controller, fun _ => hpu⟩

/-- With a call of INIT first the premise holds: INIT turns the row pull-ups on (R100). -/
theorem idealController_init {w : CmdWord} {rest : List AgentStep} (h : IdealUnreset s) (hp : s.ph = phIdle)
    (ha : s.agenda = .invoke w :: rest) (hw : opOf w = 0b00#2) : IdealController s := by
  refine (throughout_iff _ s).mpr ⟨⟨h.controller, fun hn => ?_⟩, fun t ht => (h.step ht).idealController ?_⟩
  · rw [samplesNext_invoke h.rst ha, hw] at hn
    cases hn
  · obtain ⟨u, hu, _, hpu⟩ := step_invoke_init h.rst hp ha hw
    rw [hu] at ht
    injection ht with ht
    exact ht ▸ hpu

end IdealUnreset

/-- Settles O59: the readings under the premise, and the states where it holds. -/
theorem idealControllerReadsSwitches : Obligations.IdealControllerReadsSwitches := by
  refine ⟨fun s u n h hu hr => ?_, fun s hk hr hno hstart => ?_⟩
  · obtain ⟨hk, hpu⟩ := h n u hu
    refine ⟨fun hp hn => ?_, fun w rest hp ha hw => ?_⟩
    · obtain ⟨t, ht, hraw⟩ := step_sample hr hp hn
      rw [pinRead_idealRows ⟨hk, hpu (samplesNext_sample hr hp hn)⟩] at hraw
      exact ⟨t, ht, hraw⟩
    · refine step_scan_idealRows hk hr hp ha (hw.imp_right fun hw => ⟨hw, hpu ?_⟩)
      rw [samplesNext_invoke hr ha, hw]; rfl
  · have hideal : IdealUnreset s := ⟨hk, hr, hno⟩
    rcases hstart with hpu | ⟨hreset, w, rest, ha, hw⟩
    · exact hideal.idealController hpu
    · exact hideal.idealController_init hreset.ph ha hw

end Machine
end Sys2Proof
end

section
/-! SUPPORT. DECODE by button and by axis (42_decoder.md R129), the report bit of a button (43_packer.md R141), and
the way from the switches to the report (41_scanner.md R110, R111). -/

namespace Sys2Proof
namespace Machine

/-! ## The buttons of a decoded state (R122) -/

theorem mem_allButtons (b : Button) : b ∈ Button.all := by
  cases b <;> decide

/-- With legal places of `*` and `0`, no two buttons share a cursor (R75, R7). -/
theorem pos_injective {cfg : Config} (h : cfg.PosLegal) : Function.Injective cfg.pos := by
  have hplaces : Button.all.map cfg.pos =
      [0, 1, 2, 3, 4, 5, 6, 7, 8, 9, 10, 11, 12, 13, cfg.posStar, cfg.posZero, 16] := rfl
  have hnodup : (Button.all.map cfg.pos).Nodup := by
    rcases h with ⟨hstar, hzero⟩ | ⟨hstar, hzero⟩ <;> rw [hplaces, hstar, hzero] <;> decide
  exact fun b b' hb => List.inj_on_of_nodup_map hnodup (mem_allButtons b) (mem_allButtons b') hb

/-- DECODE sets the bit of a button exactly when the button is pressed (R129). -/
theorem decodeState_btn {cfg : Config} (raw : Vector Byte 4) (h : cfg.PosLegal) (b : Button) :
    (decodeState cfg raw).btn[cfg.pos b] = pressed cfg raw (.button b) := by
  rw [Bool.eq_iff_iff, decodeState, foldl_testDir_btn, foldl_testButton_btn]
  constructor
  · rintro (hdefault | ⟨b', _, hpos, hb'⟩)
    · simp [defaultState] at hdefault
    · rwa [← pos_injective h hpos]
  · exact fun hb => .inr ⟨b, mem_allButtons b, rfl, hb⟩

/-! ## The axes of a decoded state (R123 to R125) -/

/-- Whether a direction acts on the y axis (R123). -/
def isVertical : Dir → Bool
  | .north | .south => true
  | .east | .west => false

/-- The code a direction gives its axis (R123). -/
def axisCode : Dir → Byte
  | .north | .west => 0x00#8
  | .south | .east => 0xff#8

/-- The y axis or the x axis. -/
def axisByte (vertical : Bool) (cs : ControllerState) : Byte := if vertical then cs.y else cs.x

section
variable (cfg : Config) (raw : Vector Byte 4) {v : Bool}

/-- A direction test changes its own axis, if the direction is pressed. -/
theorem axisByte_testDir (cs : ControllerState) (d : Dir) : axisByte v (testDir cfg raw cs d) =
    if isVertical d = v ∧ pressed cfg raw (.dir d) = true then axisCode d else axisByte v cs := by
  have hover : axisByte v (overrideAxis cs d) = if isVertical d = v then axisCode d else axisByte v cs := by
    cases v <;> cases d <;> rfl
  unfold testDir
  split
  · next hp => rw [hover]; simp [hp]
  · next hp => simp [hp]

/-- The other axis's directions leave an axis. -/
theorem axisByte_testDir_other (cs : ControllerState) {d : Dir} (hd : isVertical d ≠ v) :
    axisByte v (testDir cfg raw cs d) = axisByte v cs := by
  rw [axisByte_testDir, if_neg fun h => hd h.1]

/-- Tests of which only `e` acts on the axis. -/
theorem axisByte_foldl_one {e : Dir} (he : isVertical e = v) (ds : List Dir) (cs : ControllerState)
    (honly : ∀ d ∈ ds, isVertical d = v → d = e) : axisByte v (ds.foldl (testDir cfg raw) cs) =
      if e ∈ ds ∧ pressed cfg raw (.dir e) = true then axisCode e else axisByte v cs := by
  induction ds generalizing cs with
  | nil => simp
  | cons d ds ih =>
    rw [List.foldl_cons, ih _ fun x hx => honly x (List.mem_cons_of_mem d hx)]
    by_cases hd : isVertical d = v
    · have hde : d = e := honly d List.mem_cons_self hd
      subst hde
      rw [axisByte_testDir]
      by_cases hp : pressed cfg raw (.dir d) = true <;> simp [hp, he]
    · have hne : e ≠ d := fun h => hd (h ▸ he)
      rw [axisByte_testDir_other cfg raw cs hd]
      simp [hne]

/-- Tests of which `e` and, after it, `e'` act on the axis: the later one wins (R125). -/
theorem axisByte_foldl_two {e e' : Dir} (haxis : ∀ d, isVertical d = v ↔ d = e ∨ d = e') (ds : List Dir)
    (cs : ControllerState) (hnodup : ds.Nodup) (hmem : e' ∈ ds) (hlt : ds.idxOf e < ds.idxOf e') :
    axisByte v (ds.foldl (testDir cfg raw) cs) =
      if pressed cfg raw (.dir e') = true then axisCode e'
      else if pressed cfg raw (.dir e) = true then axisCode e else axisByte v cs := by
  induction ds generalizing cs with
  | nil => cases hmem
  | cons d ds ih =>
    obtain ⟨hnot, hnodup⟩ := List.nodup_cons.mp hnodup
    have hne' : d ≠ e' := by rintro rfl; simp at hlt
    have hmem : e' ∈ ds := (List.mem_cons.mp hmem).resolve_left (Ne.symm hne')
    rw [List.foldl_cons]
    by_cases hd : d = e
    · subst hd
      rw [axisByte_foldl_one cfg raw ((haxis e').mpr (.inr rfl)) ds _ fun x hx hv =>
        ((haxis x).mp hv).resolve_left fun h => hnot (h ▸ hx), axisByte_testDir]
      simp [hmem, (haxis d).mpr (.inl rfl)]
    · have hother : isVertical d ≠ v := fun hv => ((haxis d).mp hv).elim hd hne'
      rw [List.idxOf_cons_ne ds hd, List.idxOf_cons_ne ds hne'] at hlt
      rw [ih _ hnodup hmem (Nat.lt_of_succ_lt_succ hlt), axisByte_testDir_other cfg raw cs hother]

end

/-- A legal order tests each direction once (R7). -/
theorem dirOrder_legal {cfg : Config} (h : cfg.DirOrderLegal) :
    cfg.dirOrder.Nodup ∧ ∀ d : Dir, d ∈ cfg.dirOrder :=
  ⟨h.nodup_iff.mpr (by decide), fun d => h.mem_iff.mpr (by cases d <;> decide)⟩

/-- DECODE gives an axis by its two directions, the later-tested one winning (R129). -/
theorem decodeState_axis {cfg : Config} (raw : Vector Byte 4) (h : cfg.DirOrderLegal) {v : Bool} {lo hi : Dir}
    (haxis : ∀ d, isVertical d = v ↔ d = lo ∨ d = hi) (hlo : axisCode lo = 0x00#8) (hhi : axisCode hi = 0xff#8) :
    axisByte v (decodeState cfg raw) = axisOf (pressed cfg raw (.dir lo)) (pressed cfg raw (.dir hi))
      (testedAfter cfg.dirOrder hi lo) := by
  obtain ⟨hnodup, hall⟩ := dirOrder_legal h
  have hcentre : axisByte v (Button.all.foldl (testButton cfg raw) defaultState) = 0x80#8 := by
    cases v <;> simp [axisByte, defaultState, Config.axisCenter]
  have hne : cfg.dirOrder.idxOf lo ≠ cfg.dirOrder.idxOf hi := fun he => by
    rw [(List.idxOf_inj (hall lo)).mp he, hhi] at hlo
    cases hlo
  rw [decodeState]
  rcases lt_or_gt_of_ne hne with hlt | hlt
  · rw [axisByte_foldl_two cfg raw haxis _ _ hnodup (hall hi) hlt, hcentre, hlo, hhi, testedAfter, decide_eq_true hlt]
    cases pressed cfg raw (.dir lo) <;> cases pressed cfg raw (.dir hi) <;> rfl
  · rw [axisByte_foldl_two cfg raw (fun d => (haxis d).trans or_comm) _ _ hnodup (hall lo) hlt, hcentre, hlo, hhi,
      testedAfter, decide_eq_false (lt_asymm hlt)]
    cases pressed cfg raw (.dir lo) <;> cases pressed cfg raw (.dir hi) <;> rfl

/-- The y axis from north and south (R129). -/
theorem decodeState_y {cfg : Config} (raw : Vector Byte 4) (h : cfg.DirOrderLegal) : (decodeState cfg raw).y =
    axisOf (pressed cfg raw (.dir .north)) (pressed cfg raw (.dir .south))
      (testedAfter cfg.dirOrder .south .north) :=
  decodeState_axis (v := true) raw h (fun d => by cases d <;> decide) rfl rfl

/-- Of two directions of a legal order one is tested after the other. -/
theorem testedAfter_swap {cfg : Config} (h : cfg.DirOrderLegal) {d e : Dir} (hne : d ≠ e) :
    testedAfter cfg.dirOrder e d = !testedAfter cfg.dirOrder d e := by
  have hidx : cfg.dirOrder.idxOf d ≠ cfg.dirOrder.idxOf e :=
    fun he => hne ((List.idxOf_inj ((dirOrder_legal h).2 d)).mp he)
  rw [testedAfter, testedAfter, ← decide_not, decide_eq_decide]
  omega

/-- The x axis from west and east (R129). -/
theorem decodeState_x {cfg : Config} (raw : Vector Byte 4) (h : cfg.DirOrderLegal) : (decodeState cfg raw).x =
    axisOf (pressed cfg raw (.dir .west)) (pressed cfg raw (.dir .east))
      (!testedAfter cfg.dirOrder .west .east) := by
  rw [← testedAfter_swap h (by decide)]
  exact decodeState_axis (v := false) raw h (fun d => by cases d <;> decide) rfl rfl

/-- Where no field is pressed DECODE leaves its defaults, for every configuration (R120). -/
theorem decodeState_released {cfg : Config} {raw : Vector Byte 4} (h : ∀ f, pressed cfg raw f = false) :
    decodeState cfg raw = defaultState := by
  have hbutton (cs : ControllerState) (b : Button) : testButton cfg raw cs b = cs := by simp [testButton, h]
  have hdir (cs : ControllerState) (d : Dir) : testDir cfg raw cs d = cs := by simp [testDir, h]
  rw [decodeState, List.foldl_fixed' (hbutton _), List.foldl_fixed' (hdir _)]

/-! ## The report bit of a button (R75, R141) -/

/-- PACK puts a button's bit at its cursor. -/
theorem pack_cursor (cs : ControllerState) (k : Fin 17) :
    ((pack cs)[cursorByte k]).getLsbD (cursorBit k) = cs.btn[k] := by
  obtain ⟨k, hk⟩ := k
  rcases lt_or_ge k 8 with hlow | hhigh
  · have hbyte : cursorByte ⟨k, hk⟩ = 2 := Fin.ext (by simp [cursorByte]; omega)
    have hbit : cursorBit ⟨k, hk⟩ = k := Nat.mod_eq_of_lt hlow
    simp only [hbyte, hbit]
    exact (packByte_getLsbD cs.btn 0 ⟨k, hlow⟩).trans (by simp)
  obtain ⟨j, rfl⟩ := Nat.exists_eq_add_of_le hhigh
  rcases lt_or_eq_of_le (show j ≤ 8 by omega) with hj | rfl
  · have hbyte : cursorByte ⟨8 + j, hk⟩ = 3 := Fin.ext (by simp [cursorByte]; omega)
    have hbit : cursorBit ⟨8 + j, hk⟩ = j := by simp [cursorBit]; omega
    simp only [hbyte, hbit]
    exact packByte_getLsbD cs.btn 8 ⟨j, hj⟩
  · have hlast : ∀ b, (bitAt b 0).getLsbD 0 = b := by decide
    have hbyte : cursorByte ⟨8 + 8, hk⟩ = 4 := Fin.ext (by simp [cursorByte])
    have hbit : cursorBit ⟨8 + 8, hk⟩ = 0 := by simp [cursorBit]
    simp only [hbyte, hbit]
    exact hlast cs.btn[16]

/-! ## From the switches to the report (R110, R111) -/

/-- Under the ideal controller with row pull-ups a field is pressed exactly when its switch is closed. -/
theorem pressed_scanRaw {s : State} (h : IdealRows s) (cfg : Config) (f : Field) :
    pressed cfg (scanRaw s) f = (s.sw[(cfg.mapOf f).col]).getLsbD (cfg.mapOf f).bit := by
  have hbit : (cfg.mapOf f).bit.val < 6 := (cfg.mapOf f).bit.isLt
  rw [pressed, rawBit, scanRaw_idealRows h, BitVec.getLsbD_setWidth, BitVec.getLsbD_not]
  simp [hbit, show (cfg.mapOf f).bit.val < 8 by omega]

/-- The report of a controller at rest (R128(a), R144). -/
theorem pack_defaultState : pack defaultState = #v[0x80#8, 0x80#8, 0x00#8, 0x00#8, 0x00#8] := by decide

/-- A scan of a controller with no switch closed, under row pull-ups. -/
theorem acquired_absent {s : State} (h : IdealRows s) (hsw : s.sw = Vector.replicate 4 0#6) :
    (acquired s).raw = Vector.replicate 4 0x3f#8 ∧
      (acquired s).lastRead = #v[0x80#8, 0x80#8, 0x00#8, 0x00#8, 0x00#8] := by
  constructor
  · apply Vector.ext
    intro c hc
    have hraw := scanRaw_idealRows h ⟨c, hc⟩
    rw [hsw] at hraw
    exact hraw.trans (by simp)
  · have hnone : ∀ f, pressed s.cfg (scanRaw s) f = false := fun f => by
      rw [pressed_scanRaw h, hsw]; simp
    rw [← pack_defaultState, ← decodeState_released hnone]
    rfl

/-- Settles O38: no closed switch reads as no pressed field, in INIT's scan and in UPDATE's. -/
theorem absentControllerReadsIdle : Obligations.AbsentControllerReadsIdle := by
  intro s d hp hk hsw
  refine ⟨⟨_, exec_init_idle d hp, ?_⟩, fun hpu => ⟨_, exec_update_idle d hp, ?_⟩⟩
  · exact acquired_absent (s := { s with rowPue := true }) ⟨hk, rfl⟩ hsw
  · exact acquired_absent ⟨hk, hpu⟩ hsw

section
variable {s : State} (h : IdealRows s)
include h

/-- The report bit of a button after a scan: its switch is closed. -/
theorem acquired_button (hpos : s.cfg.PosLegal) (b : Button) :
    ((acquired s).lastRead[cursorByte (s.cfg.pos b)]).getLsbD (cursorBit (s.cfg.pos b)) =
      (s.sw[(s.cfg.mapOf (.button b)).col]).getLsbD (s.cfg.mapOf (.button b)).bit :=
  (pack_cursor _ _).trans <| (decodeState_btn _ hpos b).trans (pressed_scanRaw h ..)

/-- The y byte after a scan, by the switches of north and south. -/
theorem acquired_y (hdirs : s.cfg.DirOrderLegal) : (acquired s).lastRead[1] = axisOf
    ((s.sw[(s.cfg.mapOf (.dir .north)).col]).getLsbD (s.cfg.mapOf (.dir .north)).bit)
    ((s.sw[(s.cfg.mapOf (.dir .south)).col]).getLsbD (s.cfg.mapOf (.dir .south)).bit)
    (testedAfter s.cfg.dirOrder .south .north) := by
  rw [← pressed_scanRaw h, ← pressed_scanRaw h]
  exact decodeState_y (scanRaw s) hdirs

/-- The x byte after a scan, by the switches of west and east. -/
theorem acquired_x (hdirs : s.cfg.DirOrderLegal) : (acquired s).lastRead[0] = axisOf
    ((s.sw[(s.cfg.mapOf (.dir .west)).col]).getLsbD (s.cfg.mapOf (.dir .west)).bit)
    ((s.sw[(s.cfg.mapOf (.dir .east)).col]).getLsbD (s.cfg.mapOf (.dir .east)).bit)
    (!testedAfter s.cfg.dirOrder .west .east) := by
  rw [← pressed_scanRaw h, ← pressed_scanRaw h]
  exact decodeState_x (scanRaw s) hdirs

end

/-- Settles O39: a held switch is a pressed field, DECODE and PACK put it in its place, BUILDREPORT copies. -/
theorem heldSwitchesReachTheReport : Obligations.HeldSwitchesReachTheReport := by
  intro s d hcfg hideal hp
  obtain ⟨_, _, hdirs, hpos, _⟩ := hcfg
  exact ⟨_, _, exec_update_idle d hp, exec_buildReport_idle true rfl, rfl, rfl, acquired_button hideal hpos,
    acquired_y hideal hdirs, acquired_x hideal hdirs⟩

end Machine
end Sys2Proof
end

section
/-! SUPPORT. DECODE by its one operand, the pressed fields: which raw bits it reads (42_decoder.md R121, R126), and
the states it gives with no field and with one button pressed (R128). -/

namespace Sys2Proof
namespace Machine

/-- DECODE reads its sample through the pressed fields only (R121, R126). -/
theorem decodeState_congr {cfg : Config} {raw raw' : Vector Byte 4}
    (h : ∀ f, pressed cfg raw f = pressed cfg raw' f) : decodeState cfg raw = decodeState cfg raw' := by
  have hbutton : testButton cfg raw = testButton cfg raw' := by
    funext cs b
    rw [testButton, testButton, h]
  have hdir : testDir cfg raw = testDir cfg raw' := by
    funext cs d
    rw [testDir, testDir, h]
  rw [decodeState, decodeState, hbutton, hdir]

theorem exec_decode (s : State) : exec .decode s =
    .next { s with cs := decodeState s.cfg s.raw, ph := phPack, done := false } := rfl

/-- Where one button alone is pressed DECODE sets its bit and leaves the other defaults (R120, R122). -/
theorem decodeState_oneButton {cfg : Config} {raw : Vector Byte 4} {b : Button}
    (h : ∀ f, pressed cfg raw f = true ↔ f = .button b) :
    decodeState cfg raw = { defaultState with btn := defaultState.btn.set (cfg.pos b) true } := by
  have hdir (cs : ControllerState) (d : Dir) : testDir cfg raw cs d = cs := by simp [testDir, h]
  have hx := foldl_testButton_x cfg raw Button.all defaultState
  have hy := foldl_testButton_y cfg raw Button.all defaultState
  have hbtn : (Button.all.foldl (testButton cfg raw) defaultState).btn = defaultState.btn.set (cfg.pos b) true := by
    refine Vector.ext fun k hk => Bool.eq_iff_iff.mpr ((foldl_testButton_btn cfg raw _ _ ⟨k, hk⟩).trans ?_)
    simp [h, mem_allButtons, Vector.getElem_set, Fin.ext_iff, or_comm]
  rw [decodeState, List.foldl_fixed' (hdir _)]
  exact congr (congr (congrArg ControllerState.mk hx) hy) hbtn

/-- Masking off bits 7:6 leaves the bit of every position (R71, R126). -/
theorem getLsbD_and_rowMask (v : Byte) (b : Fin 6) : (v &&& 0x3f#8).getLsbD b = v.getLsbD b := by
  have hmask : ∀ b : Fin 6, (0x3f#8).getLsbD b = true := by decide
  rw [BitVec.getLsbD_and, hmask, Bool.and_true]

/-- A field's test, read off the row bits of its column. -/
theorem pressed_of_rowBits {cfg : Config} {raw : Vector Byte 4} {rows : Column → Byte}
    (h : ∀ c : Column, raw[c] &&& 0x3f#8 = rows c) (f : Field) :
    pressed cfg raw f = !(rows (cfg.mapOf f).col).getLsbD (cfg.mapOf f).bit := by
  rw [pressed, rawBit, ← getLsbD_and_rowMask, h]

/-- `MAP`'s first entry is button A's. -/
theorem fieldIndex_eq_zero_iff (f : Field) : f.index = 0 ↔ f = .button .btnA := by
  rcases f with b | d
  · cases b <;> decide
  · cases d <;> decide

/-- Under a legal `MAP` button A alone has the position (3, 0) (R85(a), R85(c)). -/
theorem mapOf_eq_btnA_iff {cfg : Config} (hinj : cfg.MapInjective) (hA : cfg.MapFixesA) (f : Field) :
    cfg.mapOf f = ⟨3, 0⟩ ↔ f = .button .btnA := by
  rw [← hA, ← fieldIndex_eq_zero_iff, Fin.ext_iff]
  exact hinj.getElem_inj_iff (hi := by simp) (hj := by simp)

/-- Settles O22: the axes and the buttons of a decoded state, from the lemmas on each. -/
theorem decodeMeetsFunctionalForm : Obligations.DecodeMeetsFunctionalForm := by
  intro s hcfg
  obtain ⟨_, _, hdirs, hpos, _⟩ := hcfg
  exact ⟨_, exec_decode s, decodeState_btn s.raw hpos, decodeState_y s.raw hdirs, decodeState_x s.raw hdirs⟩

/-- Settles O23: samples that agree on the mapped bits have the same pressed fields. -/
theorem decodeReadsMappedBitsOnly : Obligations.DecodeReadsMappedBitsOnly := by
  intro s raw h
  have hcs : decodeState s.cfg raw = decodeState s.cfg s.raw :=
    decodeState_congr fun f => congrArg not (h f)
  rw [exec_decode, exec_decode, hcs, mapNext]

/-- Settles O24: no field is pressed in the first scenario, and button A alone in the second. -/
theorem sourceScenariosDecode : Obligations.SourceScenariosDecode := by
  intro cfg hcfg raw
  obtain ⟨hinj, hA, _⟩ := hcfg
  constructor
  · intro hraw
    have hset : ∀ b : Fin 6, (0x3f#8).getLsbD b = true := by decide
    exact decodeState_released fun f => by rw [pressed_of_rowBits hraw, hset, Bool.not_true]
  · intro hraw
    have hcleared : ∀ (c : Column) (b : Fin 6),
        (!(if c = 3 then 0x3e#8 else 0x3f#8).getLsbD b) = true ↔ c = 3 ∧ b = 0 := by decide
    refine decodeState_oneButton (b := .btnA) fun f => ?_
    rw [← mapOf_eq_btnA_iff hinj hA, Position.mk.injEq, ← hcleared, pressed_of_rowBits hraw]

end Machine
end Sys2Proof
end

section
/-! SUPPORT. The packer as an encoder: the bits of the report PACK leaves (43_packer.md R140, R141), and a report read
back through Unpack (R143). -/

namespace Sys2Proof
namespace Machine

/-- The last byte of a packed report holds one button and seven zeros (R78, R141). -/
theorem pack_lastByte_high (cs : ControllerState) {j : Nat} (hj : 1 ≤ j) : (pack cs)[4].getLsbD j = false := by
  change (bitAt cs.btn[16] 0).getLsbD j = false
  rw [bitAt, BitVec.shiftLeft_zero, BitVec.getLsbD_setWidth, BitVec.getLsbD_of_ge _ _ hj, Bool.and_false]

/-- Bits 7:1 of a byte are 0. -/
theorem extractLsb'_high_eq_zero_iff (v : Byte) : v.extractLsb' 1 7 = 0#7 ↔ ∀ j, 1 ≤ j → v.getLsbD j = false := by
  constructor
  · intro h j hj
    obtain ⟨i, rfl⟩ := Nat.exists_eq_add_of_le hj
    rcases lt_or_ge i 7 with hi | hi
    · simpa [hi] using congrArg (·.getLsbD i) h
    · exact BitVec.getLsbD_of_ge _ _ (by omega)
  · intro h
    refine BitVec.eq_of_getLsbD_eq fun i _ => ?_
    simp [h (1 + i) (Nat.le_add_right 1 i)]

/-- Unpack reads a button at its cursor (R143). -/
theorem unpack_btn (r : Report) (k : Fin 17) : (unpack r).btn[k] = r[cursorByte k].getLsbD (cursorBit k) := by
  simp [unpack]

/-- Unpack of Pack is the identity (R143). -/
theorem unpack_pack (cs : ControllerState) : unpack (pack cs) = cs := by
  have hbtn : (unpack (pack cs)).btn = cs.btn := Vector.ext fun k hk =>
    (unpack_btn (pack cs) ⟨k, hk⟩).trans (pack_cursor cs ⟨k, hk⟩)
  exact congrArg (ControllerState.mk cs.x cs.y) hbtn

/-- Two decoded states with one report are the same (R143). -/
theorem pack_injective : Function.Injective pack :=
  Function.LeftInverse.injective unpack_pack

/-- Unpack reads button `8b + j` at bit `j` of byte `2 + b` (R143, R75). -/
theorem unpack_btn_bit (r : Report) {b j : Nat} (hj : j < 8) (hk : 8 * b + j < 17) :
    (unpack r).btn[8 * b + j] = (r[2 + b]'(by omega)).getLsbD j := by
  have hbyte : cursorByte ⟨8 * b + j, hk⟩ = ⟨2 + b, by omega⟩ := Fin.ext (by simp only [cursorByte]; omega)
  have hbit : cursorBit ⟨8 * b + j, hk⟩ = j := by simp only [cursorBit]; omega
  have hcursor := unpack_btn r ⟨8 * b + j, hk⟩
  simp only [hbyte, hbit] at hcursor
  exact hcursor

/-- Unpack loses nothing of a report but bits 7:1 of its last byte (R143). -/
theorem report_ext {r r' : Report} (h : unpack r = unpack r')
    (hhigh : ∀ j, 1 ≤ j → r[4].getLsbD j = r'[4].getLsbD j) : r = r' := by
  refine Vector.ext fun i hi => ?_
  match i with
  | 0 => exact congrArg ControllerState.x h
  | 1 => exact congrArg ControllerState.y h
  | b + 2 =>
    refine BitVec.eq_of_getLsbD_eq fun j hj => ?_
    simp only [Nat.add_comm b 2]
    by_cases hk : 8 * b + j < 17
    · rw [← unpack_btn_bit r hj hk, ← unpack_btn_bit r' hj hk, h]
    · obtain rfl : b = 2 := by omega
      exact hhigh j (by omega)

/-- Settles O25: each button's bit is at its cursor, and the rest of the last byte is 0. -/
theorem packWritesReport : Obligations.PackWritesReport := by
  intro s
  refine ⟨pack s.cs, fun hinit => ?_, fun hother => ?_, rfl, rfl, pack_cursor s.cs, fun j => pack_lastByte_high s.cs⟩
  · have hq : isInit s.cmdQ = true := beq_iff_eq.mpr hinit
    rw [exec_pack, if_pos hq]; rfl
  · have hq : ¬ isInit s.cmdQ = true := mt beq_iff_eq.mp hother
    rw [exec_pack, if_neg hq]; rfl

/-- Settles O26: a report is fixed by its decoded state and bits 7:1 of its last byte, which PACK leaves 0. -/
theorem unpackInvertsPack : Obligations.UnpackInvertsPack := by
  refine ⟨unpack_pack, fun _ _ h => pack_injective h, fun r => Iff.trans ?_ (extractLsb'_high_eq_zero_iff _).symm⟩
  constructor
  · intro h j hj
    rw [← h]
    exact pack_lastByte_high _ hj
  · intro h
    exact report_ext (unpack_pack _) fun j hj => (pack_lastByte_high _ hj).trans (h j hj).symm

end Machine
end Sys2Proof
end

section
/-! SUPPORT. The micro-operations of the command port and the change tracker, one clock each (44_commands.md R150 to
R161), and the signals of the port. -/

namespace Sys2Proof
namespace Machine

/-! ## Acceptance (R150) -/

/-- IDLE with a command presented. -/
theorem exec_idle_presented {s : State} {w : CmdWord} (hv : s.cmdValid = true) (hw : s.cmdWord = w) :
    exec .idle s = .next (accept w s) := by
  rw [exec_idle, if_pos hv, hw]

/-- IDLE with nothing presented. -/
theorem exec_idle_quiet {s : State} (hv : s.cmdValid = false) : exec .idle s = .next { s with done := false } := by
  rw [exec_idle, hv]; rfl

/-- Settles O10: the acceptance of each operation, BUILDREPORT's by `D`. -/
theorem idleAcceptsPresentedCommand : Obligations.IdleAcceptsPresentedCommand := by
  refine ⟨fun s hv => exec_idle_quiet hv, fun s hv hw => ?_, fun s hv hw => ?_, fun s hv hw => ?_, fun s hv hw => ?_,
    fun s hv hw => ?_⟩
  · rw [exec_idle_presented hv rfl, accept_init hw]; rfl
  · rw [exec_idle_presented hv rfl, accept_update hw]; rfl
  · rw [exec_idle_presented hv rfl, accept_changed hw]; rfl
  · rw [exec_idle_presented hv hw, accept_buildReport rfl]; rfl
  · rw [exec_idle_presented hv hw, accept_buildReport rfl]; rfl

/-! ## Saving and restoring the interrupt enable (R160, R161) -/

/-- `FIRST` after SAVE_IE, by the parameter (R160). -/
theorem firstAfterInit_eq_ite (cfg : Config) (first : Bool) :
    firstAfterInit cfg first = if cfg.initRearmsFirst then true else first := by
  unfold firstAfterInit; split <;> simp_all

/-- Settles O11: the save, the mask and the re-arming are one update. -/
theorem saveIeSavesAndMasks : Obligations.SaveIeSavesAndMasks := fun s => by
  rw [← firstAfterInit_eq_ite]; rfl

/-- Settles O12: the restored bit is the saved one, whatever it is. -/
theorem restoreIeRestores : Obligations.RestoreIeRestores := fun _ => rfl

/-! ## The comparison and the copies (R155, R157, R158) -/

/-- Two reports differ exactly where some byte does (R155). -/
theorem report_ne_iff (a b : Report) : a ≠ b ↔ ∃ i : ByteIdx, a[i] ≠ b[i] := by
  rw [← not_forall_not, not_iff_not, Vector.ext_iff]
  exact ⟨fun h i => not_not.mpr (h i i.isLt), fun h i hi => not_not.mp (h ⟨i, hi⟩)⟩

theorem exec_chg (s : State) : exec .chg s = .next { s with
    changedQ := changedAnswer s.first s.lastRead s.lastReported, first := false, ph := phIdle, done := true } := rfl

/-- Settles O28: a first call answers without the comparison; any other call is the comparison. -/
theorem chgAnswersAndConsumesFirst : Obligations.ChgAnswersAndConsumesFirst := by
  refine ⟨fun s hf => ?_, fun s hf => ⟨changedAnswer s.first s.lastRead s.lastReported, ?_, ?_⟩⟩
  · rw [exec_chg, hf]; rfl
  · rw [changedAnswer_iff, report_ne_iff, hf]; simp
  · rw [exec_chg, ← hf]

/-- A byte index below the last has a next one. -/
theorem val_succ_idx {i : ByteIdx} (hi : i ≠ 4) : (i + 1).val = i.val + 1 := by
  revert i; decide

/-- Settles O29: the two outcomes of COPY_DEST. -/
theorem copyDestMovesOneByte : Obligations.CopyDestMovesOneByte := by
  refine ⟨fun s h4 => ?_, fun s h4 => ⟨s.idx + 1, val_succ_idx h4, ?_⟩⟩
  · rw [exec_copyDest, if_pos h4]; rfl
  · rw [exec_copyDest, if_neg h4]; rfl

/-- Settles O30: the two outcomes of COPY_REP. -/
theorem copyRepMovesOneByte : Obligations.CopyRepMovesOneByte := by
  refine ⟨fun s h4 => ?_, fun s h4 => ⟨s.idx + 1, val_succ_idx h4, ?_⟩⟩
  · rw [exec_copyRep, if_pos h4]; rfl
  · rw [exec_copyRep, if_neg h4]; rfl

/-! ## The port's signals (R150, R190) -/

/-- A phase's micro-operation writes `IE` in SAVE_IE and RESTORE_IE only, as `ie_we` and `ie_wd` say (R160, R161). -/
theorem phase_ie {s t : State} {i : Instr} (hr : s.rst = false) (hi : decodePhase s.ph = .ok i)
    (ht : exec i s = .next t) : t.ie = if ieWe s then ieWd s else s.ie := by
  have hcode := encode_of_decodePhase hi
  by_cases hsave : i = .saveIe
  · subst hsave
    injection hcode with hp
    injection ht with ht; subst ht
    simp [ieWe, ieWd, hr, ← hp]
  by_cases hrest : i = .restoreIe
  · subst hrest
    injection hcode with hp
    injection ht with ht; subst ht
    simp [ieWe, ieWd, hr, ← hp]
  · have hs : s.ph ≠ phSaveIe := fun hp => by rw [hp] at hi; cases hi; exact hsave rfl
    have hr : s.ph ≠ phRestoreIe := fun hp => by rw [hp] at hi; cases hi; exact hrest rfl
    have hwe : ieWe s = false := by simp [ieWe, hs, hr]
    rw [hwe]
    exact (exec_keeps ht).2.2 hsave hrest

/-- Settles O48: on a reset edge `ie_we` is 0 and `IE` is kept; any other edge is a phase's. -/
theorem ieWriteSignalsDescribeIe : Obligations.IeWriteSignalsDescribeIe := by
  intro s t h
  rcases blockTurn_cases h with ⟨hr, rfl⟩ | ⟨hr, i, hi, ht⟩
  · have hwe : ieWe s = false := by simp [ieWe, hr]
    rw [hwe]; rfl
  · exact phase_ie hr hi ht

/-- A micro-operation that raises `done` has come to IDLE (R152). -/
theorem phase_idle_of_done {p : PhaseCode} {s t : State} {i : Instr} (hi : decodePhase p = .ok i)
    (ht : exec i s = .next t) (hd : t.done = true) : t.ph = phIdle := by
  have he := encode_of_decodePhase hi
  cases i
  case init | update | changed | buildReport => cases he
  case idle => rw [idle_frame ht] at hd; cases hd
  case releasePu => rw [exec_releasePu] at ht; injection ht with ht; subst ht; split at hd <;> cases hd
  case pack =>
    rw [exec_pack] at ht; injection ht with ht; subst ht
    split at hd
    · cases hd
    · next hw => rw [if_neg hw]; rfl
  case copyDest => rw [exec_copyDest] at ht; injection ht with ht; subst ht; split at hd <;> cases hd
  case copyRep =>
    rw [exec_copyRep] at ht; injection ht with ht; subst ht
    split at hd
    · next h4 => rw [if_pos h4]; rfl
    · cases hd
  case restoreIe | chg => injection ht with ht; subst ht; rfl
  all_goals (injection ht with ht; subst ht; cases hd)

/-- A clock edge in IDLE ends the `done` pulse (R150, R190). -/
theorem blockTurn_idle_done {s t : State} (hp : s.ph = phIdle) (h : blockTurn s = .next t) : t.done = false := by
  rcases blockTurn_cases h with ⟨_, rfl⟩ | ⟨_, i, hi, ht⟩
  · rfl
  · rw [hp] at hi
    cases hi
    rw [idle_frame ht]

/-- Settles O49: IDLE ends the pulse, and outside IDLE the pulse and the way into IDLE come together. -/
theorem donePulsesAtCommandEnd : Obligations.DonePulsesAtCommandEnd := by
  refine ⟨fun s t hr h => ?_, fun s t => blockTurn_idle_done⟩
  by_cases hs : s.ph = phIdle
  · simp [blockTurn_idle_done hs h, hs]
  · rcases blockTurn_cases h with ⟨hr', _⟩ | ⟨_, i, hi, ht⟩
    · exact absurd hr' (Bool.eq_false_iff.mp hr)
    · exact ⟨fun hd => ⟨hs, phase_idle_of_done hi ht hd⟩, fun ⟨_, hp⟩ => phase_done hi ht hs hp⟩

end Machine
end Sys2Proof
end

section
/-! SUPPORT. The input levels: who sets them, and that inside a command the port is not read (44_commands.md R150,
R151). -/

namespace Sys2Proof
namespace Machine

/-! ## The port inside a command (R151) -/

/-- No micro-operation but IDLE reads the port. -/
theorem phase_ignoresPort {p : PhaseCode} {i : Instr} (hi : decodePhase p = .ok i) (hidle : i ≠ .idle) (s : State)
    (v : Bool) (w : CmdWord) : exec i { s with cmdValid := v, cmdWord := w } =
      mapNext (fun t => { t with cmdValid := v, cmdWord := w }) (exec i s) := by
  have he := encode_of_decodePhase hi
  cases i
  case init | update | changed | buildReport => cases he
  case idle => exact absurd rfl hidle
  case releasePu => rw [exec_releasePu, exec_releasePu]; split <;> rfl
  case pack => rw [exec_pack, exec_pack]; split <;> rfl
  case copyDest => rw [exec_copyDest, exec_copyDest]; split <;> rfl
  case copyRep => rw [exec_copyRep, exec_copyRep]; split <;> rfl
  all_goals rfl

/-- Outside IDLE no clock edge reads the port, reset edges included. -/
theorem blockTurn_ignoresPort {s : State} (hp : s.ph ≠ phIdle) (v : Bool) (w : CmdWord) :
    blockTurn { s with cmdValid := v, cmdWord := w } =
      mapNext (fun t => { t with cmdValid := v, cmdWord := w }) (blockTurn s) := by
  by_cases hr : s.rst = true
  · rw [blockTurn_reset hr, blockTurn_reset (by exact hr)]; rfl
  · have hr : s.rst = false := Bool.eq_false_iff.mpr hr
    rcases decodePhase_total s.ph with hf | ⟨i, hi⟩
    · rw [blockTurn_reserved hr hf, blockTurn_reserved (by exact hr) (by exact hf)]; rfl
    · rw [blockTurn_phase hr hi, blockTurn_phase (by exact hr) (by exact hi)]
      refine phase_ignoresPort hi ?_ s v w
      rintro rfl
      exact hp (CodeWord.ph4.inj (encode_of_decodePhase hi)).symm

/-- A whole command inside another is refused (R151). -/
theorem command_busy {s : State} (w : CmdWord) (f : State → State) (hp : s.ph ≠ phIdle) :
    command w f s = .refused .reentrant := if_neg hp

/-- Settles O9: outside IDLE the port is not read, and each of the four commands is refused. -/
theorem oneCommandAtATime : Obligations.OneCommandAtATime := by
  refine ⟨fun s v w hp => blockTurn_ignoresPort hp v w, fun s w hp => ?_⟩
  obtain ⟨d, hw | hw | hw | hw⟩ := decodeCmd_cases w
  · rw [hw, exec_init, command_busy _ _ hp]
  · rw [hw, exec_update, command_busy _ _ hp]
  · rw [hw, exec_changed, command_busy _ _ hp]
  · rw [hw, exec_buildReport, command_busy _ _ hp]

/-! ## The levels hold (R150, R190) -/

/-- Only the driver's turn on its port changes the port's levels, and only a turn on the reset line the reset
input. -/
theorem step_inputLevels {s t : State} (hs : step s = .next t) :
    ((∀ v w rest, s.agenda ≠ .drivePort v w :: rest) → t.cmdValid = s.cmdValid ∧ t.cmdWord = s.cmdWord) ∧
    ((∀ level rest, s.agenda ≠ .driveReset level :: rest) → t.rst = s.rst) := by
  cases turn_of_step hs with
  | reset _ _ ht => subst ht; exact ⟨fun _ => ⟨rfl, rfl⟩, fun _ => rfl⟩
  | phase i _ _ _ ht =>
    obtain ⟨hrst, hvalid, hword, _⟩ := exec_sameEnvironment ht
    exact ⟨fun _ => ⟨hvalid, hword⟩, fun _ => hrst⟩
  | call w _ _ ht =>
    obtain ⟨hrst, hvalid, hword, _⟩ := exec_sameEnvironment ht
    exact ⟨fun _ => ⟨hvalid, hword⟩, fun _ => hrst⟩
  | other a rest ha hb ht =>
    obtain ⟨_, hport, hrst, _⟩ := otherAgentsLeaveTheBlockAlone a _ t ht hb.notBlock hb.notCall hb.branchNotTaken
    refine ⟨fun hno => ?_, fun hno => ?_⟩
    · have hkept := mt hport fun e => hno _ _ rest (e ▸ ha)
      rwa [not_or, not_not, not_not] at hkept
    · exact not_not.mp (mt hrst fun e => hno _ rest (e ▸ ha))

/-- Settles O55: each input's turn, and the frame of every other step. -/
theorem inputTurnsSetTheirLevels : Obligations.InputTurnsSetTheirLevels := by
  refine ⟨fun _ _ _ => rfl, fun _ _ => rfl, fun s v hp => ?_, fun s v hp => ?_,
    fun s t hs => step_inputLevels hs⟩
  · exact congrArg Host.Outcome.next (if_pos hp)
  · exact congrArg Host.Outcome.next (if_neg hp)

end Machine
end Sys2Proof
end

section
/-! SUPPORT. The four commands as whole transitions, register by register, and sequences of two of them
(44_commands.md R153 to R159, R163). -/

namespace Sys2Proof
namespace Machine

/-! ## What each command leaves (R153, R154, R156, R159) -/

/-- Settles O31: the samples are those of the scan, the rest is the composite. -/
theorem updateAcquiresReport : Obligations.UpdateAcquiresReport :=
  fun d s hp => ⟨scanRaw s, scanRaw_getElem s, exec_update_idle d hp⟩

/-- Settles O32: UPDATE's body with the row pull-ups on, `IE` restored from what was saved. -/
theorem initAcquiresReportMasked : Obligations.InitAcquiresReportMasked := by
  refine fun d s hp => ⟨scanRaw { s with rowPue := true }, scanRaw_getElem _, ?_⟩
  rw [exec_init_idle d hp, firstAfterInit_eq_ite]; rfl

/-- Settles O33: the answer is that of the comparison, byte by byte. -/
theorem changedAnswers : Obligations.ChangedAnswers := by
  refine fun d s hp => ⟨changedAnswer s.first s.lastRead s.lastReported, ?_, exec_changed_idle d hp⟩
  rw [changedAnswer_iff, report_ne_iff]

/-- Settles O34: the two forms by `D`. -/
theorem buildReportAdvancesBaseline : Obligations.BuildReportAdvancesBaseline :=
  ⟨fun _ hp => exec_buildReport_idle true hp, fun _ hp => exec_buildReport_idle false hp⟩

/-! ## Two commands in a row (R163) -/

/-- CHANGED in IDLE answers the comparison, or 1 on a first call. -/
theorem changed_answers {t : State} (d : Bool) (hp : t.ph = phIdle) : ∃ u, exec (.changed d) t = .next u ∧
    u.changedQ = changedAnswer t.first t.lastRead t.lastReported :=
  ⟨_, exec_changed_idle d hp, rfl⟩

/-- CHANGED answers 1 on a first call and where the reports differ (R155). -/
theorem changed_answers_true {t : State} (d : Bool) (hp : t.ph = phIdle)
    (h : t.first = true ∨ t.lastRead ≠ t.lastReported) :
    ∃ u, exec (.changed d) t = .next u ∧ u.changedQ = true := by
  rw [← changedAnswer_iff] at h
  exact h ▸ changed_answers d hp

/-- INIT leaves `FIRST` set if it was, or if the parameter re-arms it (R160, R163(a)). -/
theorem init_first {d : Bool} {s t : State} (ht : exec (.init d) s = .next t)
    (h : s.first = true ∨ s.cfg.initRearmsFirst = true) : t.ph = phIdle ∧ t.first = true := by
  obtain ⟨_, rfl⟩ := init_cases ht
  exact ⟨rfl, Bool.or_eq_true_iff.mpr h.symm⟩

/-- Settles O36: `FIRST` after INIT, equal reports after BUILDREPORT, and PACK injective after UPDATE. -/
theorem changeTrackerProperties : Obligations.ChangeTrackerProperties := by
  refine ⟨fun s t d d' ht hfirst => ?_, fun t d' hboot => ?_, fun s t d d' ht hfirst => ?_,
    fun s t d d' cs hbase ht hne => ?_, fun s t d ht => ?_⟩
  · obtain ⟨hp, hf⟩ := init_first ht hfirst
    exact changed_answers_true d' hp (.inl hf)
  · obtain ⟨s, d, hreset, ht⟩ := hboot
    obtain ⟨hp, hf⟩ := init_first ht (.inl hreset.first)
    exact changed_answers_true d' hp (.inl hf)
  · obtain ⟨_, rfl⟩ := buildReport_cases ht
    refine ⟨_, exec_changed_idle d' rfl, ?_⟩
    rw [changedAnswer, hfirst, reportsDiffer_self]; rfl
  · obtain ⟨_, rfl⟩ := update_cases ht
    exact changed_answers_true d' rfl (.inr fun hsame => hne (pack_injective (hsame.trans hbase)))
  · obtain ⟨_, rfl⟩ := buildReport_cases ht
    rfl

/-- Equal readings are equal samples (R104). -/
theorem scanRaw_congr {s t : State} (h : ∀ c, reading t c = reading s c) : scanRaw t = scanRaw s := by
  unfold scanRaw; simp only [h]

/-- Readings under the ideal controller with row pull-ups repeat while the switches do (R110). -/
theorem reading_repeats {s t : State} (hs : IdealRows s) (ht : IdealRows t) (hsw : t.sw = s.sw) (c : Column) :
    reading t c = reading s c := by
  rw [reading_idealRows hs, reading_idealRows ht, hsw]

/-- Re-arming `FIRST` twice is re-arming it once (R160). -/
theorem firstAfterInit_idem (cfg : Config) (first : Bool) :
    firstAfterInit cfg (firstAfterInit cfg first) = firstAfterInit cfg first := by
  simp [firstAfterInit]

/-- Settles O37: RAW is a function of the readings, CS of RAW, and the report of CS. -/
theorem scansAreIdempotent : Obligations.ScansAreIdempotent := by
  refine ⟨fun s t u d d' ht hu hsame => ?_, fun s t u d ht hu hsame => ?_⟩
  · obtain ⟨_, rfl⟩ := update_cases ht
    obtain ⟨_, rfl⟩ := update_cases hu
    have hraw := scanRaw_congr (hsame.elim id fun hideal => reading_repeats hideal hideal rfl)
    refine ⟨hraw, ?_, ?_⟩
    · exact congrArg (decodeState s.cfg) hraw
    · exact congrArg (fun raw => pack (decodeState s.cfg raw)) hraw
  · obtain ⟨_, rfl⟩ := init_cases ht
    obtain ⟨_, rfl⟩ := init_cases hu
    have hraw := scanRaw_congr hsame
    apply State.ext
    case raw => exact hraw
    case cs => exact congrArg (decodeState s.cfg) hraw
    case lastRead => exact congrArg (fun raw => pack (decodeState s.cfg raw)) hraw
    case first => exact firstAfterInit_idem s.cfg s.first
    all_goals rfl

end Machine
end Sys2Proof
end

section
/-! SUPPORT. A command left alone: its phases, one clock each, and the whole transition they add up to (44_commands.md
R150, R152). -/

namespace Sys2Proof
namespace Machine

/-- The bytes below the next index, once the byte at this one is copied. -/
theorem copied_next {a b : Report} {idx next : ByteIdx} (h : ∀ i, i < idx → a[i] = b[i])
    (hnext : next.val = idx.val + 1) (i : ByteIdx) (hi : i < next) : (a.set idx b[idx])[i] = b[i] :=
  copied_upTo h i (Nat.le_of_lt_succ (lt_of_lt_of_eq (Fin.lt_def.mp hi) hnext))

/-- The block steps alone: no other agent's turn to come, and the reset input low. -/
structure Alone (s : State) : Prop where
  agenda : s.agenda = []
  rst : s.rst = false

namespace Alone

variable {s t : State}

/-- The next step is the micro-operation that `PH` names (R30). -/
theorem step {i : Instr} (h : Alone s) (hi : decodePhase s.ph = .ok i) : step s = exec i s := by
  rw [step_nil h.agenda, blockTurn_phase h.rst hi]

/-- A block that has moved on with its environment as it was is still alone. -/
theorem of_sameEnvironment (h : Alone s) (he : SameEnvironment s t) : Alone t := by
  obtain ⟨hrst, _, _, _, _, _, hagenda⟩ := he
  exact ⟨hagenda.trans h.agenda, hrst.trans h.rst⟩

/-- The first clock of a run that starts in phase `p`. -/
theorem run_goto {p : PhaseCode} {i : Instr} {n : Nat} (h : Alone s) (hi : decodePhase p = .ok i)
    (ht : exec i (goto p s) = .next t) : run (n + 1) (goto p s) = run n t :=
  run_cons ((step (s := goto p s) ⟨h.agenda, h.rst⟩ hi).trans ht)

/-! ## The scan, column by column (R107, R108) -/

/-- The whole hold of the driven column (R102, R103). -/
theorem run_hold (h : Alone s) (hn : 1 ≤ s.cfg.nSettle) :
    run s.cfg.nSettle (goto phSettle (driveColumn s)) = .next (goto phSample (hold (driveColumn s))) := by
  obtain ⟨n, hsucc⟩ := Nat.exists_eq_add_of_le' hn
  have hholding : Holding (goto phSettle (driveColumn s)) := ⟨rfl, h.agenda, h.rst⟩
  have hmin : min s.cfg.nSettle 1 = 1 := Nat.min_eq_right hn
  rw [hsucc, hholding.run_whole hsucc, ← hmin]; rfl

/-- A column driven and held (R101 to R103). -/
theorem run_drive (h : Alone s) (hn : 1 ≤ s.cfg.nSettle) :
    run (s.cfg.nSettle + 2) (goto phStrobeLow s) = .next (goto phSample (hold (driveColumn (assertLow s)))) := by
  have hlow : Alone (assertLow s) := ⟨h.agenda, h.rst⟩
  calc run (s.cfg.nSettle + 2) (goto phStrobeLow s)
    _ = run (s.cfg.nSettle + 1) (goto phStrobeOut (assertLow s)) := h.run_goto rfl rfl
    _ = run s.cfg.nSettle (goto phSettle (driveColumn (assertLow s))) := hlow.run_goto rfl rfl
    _ = _ := hlow.run_hold hn

/-- A column sampled and released, and the next column or DECODE (R104 to R106). -/
theorem run_release (h : Alone s) : run 3 (goto phSample s) = .next (if s.col = 3
    then goto phDecode (pullUpColumn (releaseColumn (sampleRows s)))
    else goto phStrobeLow { pullUpColumn (releaseColumn (sampleRows s)) with col := s.col + 1 }) := by
  calc run 3 (goto phSample s)
    _ = run 2 (goto phReleaseIn (sampleRows s)) := h.run_goto rfl rfl
    _ = run 1 (goto phReleasePu (releaseColumn (sampleRows s))) := run_goto ⟨h.agenda, h.rst⟩ rfl rfl
    _ = _ := run_goto ⟨h.agenda, h.rst⟩ rfl rfl

/-- One column of a scan, from its STROBE_LOW to the next column's or to DECODE. -/
theorem run_column (h : Alone s) (hn : 1 ≤ s.cfg.nSettle) (c : Column) :
    run (s.cfg.nSettle + 5) (goto phStrobeLow { s with col := c }) = .next (if c = 3
      then goto phDecode (scanColumn s c) else goto phStrobeLow { scanColumn s c with col := c + 1 }) :=
  have hcol : Alone { s with col := c } := ⟨h.agenda, h.rst⟩
  (run_add (hcol.run_drive hn)).trans
    (run_release (s := hold (driveColumn (assertLow { s with col := c }))) ⟨h.agenda, h.rst⟩)

/-- The four columns. -/
theorem run_scan (h : Alone s) (hn : 1 ≤ s.cfg.nSettle) :
    run (4 * (s.cfg.nSettle + 5)) (goto phStrobeLow { s with col := 0 }) = .next (goto phDecode (scan s)) := by
  have h0 := h.run_column hn 0
  have h1 := run_column (s := scanColumn s 0) ⟨h.agenda, h.rst⟩ hn 1
  have h2 := run_column (s := scanColumn (scanColumn s 0) 1) ⟨h.agenda, h.rst⟩ hn 2
  have h3 := run_column (s := scanColumn (scanColumn (scanColumn s 0) 1) 2) ⟨h.agenda, h.rst⟩ hn 3
  rw [show ∀ k, 4 * k = k + (k + (k + k)) by omega, run_add h0]
  exact (run_add h1).trans ((run_add h2).trans h3)

/-- Scan, decode and pack: where UPDATE ends and INIT goes on (R140). -/
theorem run_acquire (h : Alone s) (hn : 1 ≤ s.cfg.nSettle) :
    run (4 * (s.cfg.nSettle + 5) + 2) (goto phStrobeLow { s with col := 0 }) =
      .next (if isInit s.cmdQ then goto phRestoreIe (acquire s) else finish (acquire s)) := by
  have hscan : Alone (scan s) := by rw [scan_eq]; exact ⟨h.agenda, h.rst⟩
  have hcmd : (scan s).cmdQ = s.cmdQ := by rw [scan_eq]
  calc run (4 * (s.cfg.nSettle + 5) + 2) (goto phStrobeLow { s with col := 0 })
    _ = run 2 (goto phDecode (scan s)) := run_add (h.run_scan hn)
    _ = run 1 (goto phPack (decodeRaw (scan s))) := hscan.run_goto rfl rfl
    _ = .next (if isInit (scan s).cmdQ then goto phRestoreIe (acquire s) else finish (acquire s)) :=
      run_goto ⟨hscan.agenda, hscan.rst⟩ rfl rfl
    _ = _ := by rw [hcmd]

/-! ## The copies, byte by byte (R157, R158) -/

/-- COPY_DEST with `n + 1` bytes to go, the bytes below `IDX` copied. -/
theorem run_copyDest {n : Nat} (h : Alone s) (hp : s.ph = phCopyDest) (hidx : s.idx.val + n = 4)
    (hcopied : ∀ i, i < s.idx → s.dest[i] = s.lastRead[i]) :
    run (n + 1) s = .next (goto phCopyRep { s with dest := s.lastRead, idx := 0 }) := by
  obtain ⟨hlast, hmore⟩ := copyDestMovesOneByte
  induction n generalizing s with
  | zero =>
    have hstep := (h.step (by rw [hp]; rfl)).trans (hlast s (Fin.ext hidx))
    rw [copied_all hcopied (Fin.ext hidx)] at hstep
    exact run_one hstep
  | succ n ih =>
    obtain ⟨next, hnext, hexec⟩ := hmore s fun e => by rw [e] at hidx; simp at hidx
    rw [run_cons ((h.step (by rw [hp]; rfl)).trans hexec)]
    exact ih ⟨h.agenda, h.rst⟩ hp (by simp only [hnext]; omega) (copied_next hcopied hnext)

/-- COPY_REP with `n + 1` bytes to go, the bytes below `IDX` copied. -/
theorem run_copyRep {n : Nat} {d : Bool} (h : Alone s) (hp : s.ph = phCopyRep) (hd : destSupplied s.cmdQ = d)
    (hidx : s.idx.val + n = 4) (hcopied : ∀ i, i < s.idx → s.lastReported[i] = s.lastRead[i]) :
    run (n + 1) s = .next (finish (countWritten d { s with lastReported := s.lastRead, idx := 4 })) := by
  obtain ⟨hlast, hmore⟩ := copyRepMovesOneByte
  induction n generalizing s with
  | zero =>
    have h4 : s.idx = 4 := Fin.ext hidx
    have hstep := (h.step (by rw [hp]; rfl)).trans (hlast s h4)
    rw [copied_all hcopied h4] at hstep
    rw [run_one hstep, ← h4, ← hd]; rfl
  | succ n ih =>
    obtain ⟨next, hnext, hexec⟩ := hmore s fun e => by rw [e] at hidx; simp at hidx
    rw [run_cons ((h.step (by rw [hp]; rfl)).trans hexec)]
    exact ih ⟨h.agenda, h.rst⟩ hp hd (by simp only [hnext]; omega) (copied_next hcopied hnext)

/-! ## The four commands from acceptance to IDLE (R150, R152) -/

/-- INIT: SAVE_IE, CFG_PINS, UPDATE's phases and RESTORE_IE (R159). -/
theorem run_init {w : CmdWord} (h : Alone s) (hn : 1 ≤ s.cfg.nSettle) (hw : opOf w = 0b00#2) :
    run (4 * (s.cfg.nSettle + 5) + 5) (accept w s) =
      .next (finish (restoreInterrupts (acquire (configurePins (saveInterrupts (latch w s)))))) := by
  have hstart : Alone (configurePins (saveInterrupts (latch w s))) := ⟨h.agenda, h.rst⟩
  have hacquired : Alone (acquire (configurePins (saveInterrupts (latch w s)))) := by
    rw [acquire_eq]; exact ⟨h.agenda, h.rst⟩
  have hinit : isInit w = true := beq_iff_eq.mpr hw
  have hrun : run (4 * (s.cfg.nSettle + 5) + 2) (goto phStrobeLow (configurePins (saveInterrupts (latch w s)))) =
      .next (goto phRestoreIe (acquire (configurePins (saveInterrupts (latch w s))))) :=
    (hstart.run_acquire hn).trans (congrArg Host.Outcome.next (if_pos hinit))
  rw [accept_init hw]
  calc run (4 * (s.cfg.nSettle + 5) + 5) (goto phSaveIe (latch w s))
    _ = run (4 * (s.cfg.nSettle + 5) + 4) (goto phCfgPins (saveInterrupts (latch w s))) :=
      run_goto ⟨h.agenda, h.rst⟩ rfl rfl
    _ = run (4 * (s.cfg.nSettle + 5) + 3) (goto phStrobeLow (configurePins (saveInterrupts (latch w s)))) :=
      run_goto ⟨h.agenda, h.rst⟩ rfl rfl
    _ = run 1 (goto phRestoreIe (acquire (configurePins (saveInterrupts (latch w s))))) :=
      run_add (n := 1) hrun
    _ = _ := hacquired.run_goto rfl rfl

/-- UPDATE: the scan, DECODE and PACK (R153). -/
theorem run_update {w : CmdWord} (h : Alone s) (hn : 1 ≤ s.cfg.nSettle) (hw : opOf w = 0b01#2) :
    run (4 * (s.cfg.nSettle + 5) + 2) (accept w s) = .next (finish (acquire (latch w s))) := by
  have hinit : ¬ isInit w = true := by rw [isInit, hw]; decide
  rw [accept_update hw]
  exact (run_acquire (s := latch w s) ⟨h.agenda, h.rst⟩ hn).trans (congrArg Host.Outcome.next (if_neg hinit))

/-- CHANGED: CHG alone (R154). -/
theorem run_changed {w : CmdWord} (h : Alone s) (hw : opOf w = 0b10#2) :
    run 1 (accept w s) = .next (finish (answerChanged (latch w s))) := by
  rw [accept_changed hw]
  exact run_goto ⟨h.agenda, h.rst⟩ rfl rfl

/-- BUILDREPORT: five bytes to the destination if there is one, then five to the baseline (R156). -/
theorem run_buildReport {w : CmdWord} (h : Alone s) (hw : opOf w = 0b11#2) :
    run (if destSupplied w then 10 else 5) (accept w s) =
      .next (finish (countWritten (destSupplied w) (buildCopies (destSupplied w) (latch w s)))) := by
  have hnone : ∀ {P : ByteIdx → Prop} (i : ByteIdx), i < 0 → P i := fun i hi => absurd hi (Fin.not_lt_zero i)
  rw [accept_buildReport hw, buildCopies_eq]
  cases hd : destSupplied w with
  | false =>
    exact run_copyRep (s := goto phCopyRep { latch w s with idx := 0 }) (n := 4) ⟨h.agenda, h.rst⟩ rfl hd rfl hnone
  | true =>
    have hdest := run_copyDest (s := goto phCopyDest { latch w s with idx := 0 }) (n := 4) ⟨h.agenda, h.rst⟩ rfl rfl
      hnone
    exact (run_add (n := 5) hdest).trans
      (run_copyRep (s := goto phCopyRep { latch w s with dest := s.lastRead, idx := 0 }) (n := 4) ⟨h.agenda, h.rst⟩
        rfl hd rfl hnone)

end Alone

/-! ## The length of a command (R152) -/

section
variable (cfg : Config) {w : CmdWord}

theorem commandClocks_init (hw : opOf w = 0b00#2) : commandClocks cfg w = 4 * (5 + cfg.nSettle) + 5 :=
  if_pos hw

theorem commandClocks_update (hw : opOf w = 0b01#2) : commandClocks cfg w = 4 * (5 + cfg.nSettle) + 2 := by
  simp [commandClocks, hw]

theorem commandClocks_changed (hw : opOf w = 0b10#2) : commandClocks cfg w = 1 := by
  simp [commandClocks, hw]

theorem commandClocks_buildReport (hw : opOf w = 0b11#2) : commandClocks cfg w = if destSupplied w then 10 else 5 := by
  simp [commandClocks, hw]

end

/-! ## Phases and whole transition -/

/-- A word is made of its two fields (R80). -/
theorem cmdWordOf_fields : ∀ w : CmdWord, cmdWordOf (opOf w) (destSupplied w) = w := by decide

/-- A word of CHANGED's or BUILDREPORT's operation decodes to that command (R81). -/
theorem decodeCmd_changed : ∀ w : CmdWord, opOf w = 0b10#2 → decodeCmd w = .changed (destSupplied w) := by decide
theorem decodeCmd_buildReport : ∀ w : CmdWord, opOf w = 0b11#2 → decodeCmd w = .buildReport (destSupplied w) := by
  decide

/-- An operation field is one of four (R80). -/
theorem op_cases : ∀ op : BitVec 2, op = 0b00#2 ∨ op = 0b01#2 ∨ op = 0b10#2 ∨ op = 0b11#2 := by decide

/-- The phases of an accepted command, run alone, add up to its whole transition (R150). -/
theorem Alone.run_accept {w : CmdWord} {s : State} (h : Alone s) (hn : 1 ≤ s.cfg.nSettle) (hp : s.ph = phIdle) :
    run (commandClocks s.cfg w) (accept w s) = exec (decodeCmd w) s := by
  rcases op_cases (opOf w) with hw | hw | hw | hw
  · rw [commandClocks_init _ hw, Nat.add_comm 5, h.run_init hn hw, decodeCmd_init w hw, exec_init, ← hw,
      cmdWordOf_fields, command_idle _ _ hp]
  · rw [commandClocks_update _ hw, Nat.add_comm 5, h.run_update hn hw, decodeCmd_update w hw, exec_update, ← hw,
      cmdWordOf_fields, command_idle _ _ hp]
  · rw [commandClocks_changed _ hw, h.run_changed hw, decodeCmd_changed w hw, exec_changed, ← hw, cmdWordOf_fields,
      command_idle _ _ hp]
  · rw [commandClocks_buildReport _ hw, h.run_buildReport hw, decodeCmd_buildReport w hw, exec_buildReport, ← hw,
      cmdWordOf_fields, command_idle _ _ hp]

/-- Settles O35: the acceptance clock, then the phases of each command. -/
theorem commandEqualsItsPhases : Obligations.CommandEqualsItsPhases := by
  intro s hn hp ha hr hv
  have halone : Alone s := ⟨ha, hr⟩
  have haccept : step s = .next (accept s.cmdWord s) :=
    (halone.step (by rw [hp]; rfl)).trans (exec_idle_presented hv rfl)
  rw [Nat.add_comm, run_cons haccept, halone.run_accept hn hp]

end Machine
end Sys2Proof
end

section
/-! SUPPORT. The clocks a command has left, phase by phase (44_commands.md R152). -/

namespace Sys2Proof
namespace Machine

/-! ## The count -/

/-- The clocks after PACK: INIT's RESTORE_IE. -/
def clocksAfterPack (s : State) : Nat := if isInit s.cmdQ then 1 else 0

/-- The clocks after the current column's RELEASE_PU: the columns to come, DECODE, PACK and what follows. -/
def clocksAfterColumn (s : State) : Nat := (3 - s.col.val) * (s.cfg.nSettle + 5) + clocksAfterPack s + 2

/-- The clocks from a micro-operation to the end of its command, its own included. A hold is one clock at least. -/
def clocksFrom (i : Instr) (s : State) : Nat :=
  match i with
  | .saveIe => 4 * (s.cfg.nSettle + 5) + 5
  | .cfgPins => 4 * (s.cfg.nSettle + 5) + 4
  | .strobeLow => clocksAfterColumn s + s.cfg.nSettle + 5
  | .strobeOut => clocksAfterColumn s + s.cfg.nSettle + 4
  | .settle => clocksAfterColumn s + max s.settleCnt 1 + 3
  | .sample => clocksAfterColumn s + 3
  | .releaseIn => clocksAfterColumn s + 2
  | .releasePu => clocksAfterColumn s + 1
  | .decode => clocksAfterPack s + 2
  | .pack => clocksAfterPack s + 1
  | .restoreIe | .chg => 1
  | .copyDest => 10 - s.idx.val
  | .copyRep => 5 - s.idx.val
  | .idle | .init _ | .update _ | .changed _ | .buildReport _ => 0

/-- The clocks that the command in `CMD_Q` has left. -/
def clocksLeft (s : State) : Nat :=
  match decodePhase s.ph with
  | .ok i => clocksFrom i s
  | .error _ => 0

theorem clocksLeft_phase {s : State} {i : Instr} (hi : decodePhase s.ph = .ok i) : clocksLeft s = clocksFrom i s := by
  rw [clocksLeft, hi]

/-- A column below the last leaves one column less to come. -/
theorem clocksAfterColumn_next {s : State} (hcol : s.col ≠ 3) :
    clocksAfterColumn { s with col := s.col + 1 } + s.cfg.nSettle + 5 = clocksAfterColumn s := by
  have hsucc : 3 - s.col.val = 3 - (s.col + 1).val + 1 := by
    have hlt : s.col.val ≠ 3 := fun e => hcol (Fin.ext e)
    rw [val_succ_col hcol]; omega
  simp only [clocksAfterColumn, clocksAfterPack, hsucc, Nat.succ_mul]
  omega

/-- After the last column DECODE is next. -/
theorem clocksAfterColumn_last {s : State} (hcol : s.col = 3) : clocksAfterColumn s = clocksAfterPack s + 2 := by
  simp [clocksAfterColumn, hcol]

/-! ## The command by its phase (R82) -/

/-- The phases of INIT alone. -/
theorem op_of_phaseFits_init : ∀ p w, p = phSaveIe ∨ p = phCfgPins ∨ p = phRestoreIe → phaseFits p w = true →
    opOf w = 0b00#2 := by decide

/-- The phases that INIT and UPDATE share. -/
theorem op_of_phaseFits_scan : ∀ p w, scanning p = true ∨ p = phDecode ∨ p = phPack → phaseFits p w = true →
    opOf w = 0b00#2 ∨ opOf w = 0b01#2 := by decide

/-- The phases of CHANGED and BUILDREPORT. -/
theorem op_of_phaseFits_chg : ∀ w, phaseFits phChg w = true → opOf w = 0b10#2 := by decide
theorem word_of_phaseFits_copyDest : ∀ w, phaseFits phCopyDest w = true → w = 0b111#3 := by decide
theorem op_of_phaseFits_copyRep : ∀ w, phaseFits phCopyRep w = true → opOf w = 0b11#2 := by decide

/-- A phase of the invariant names a micro-operation. -/
theorem BlockInv.decodes {s : State} (h : BlockInv s) : ∃ i, decodePhase s.ph = .ok i := by
  have hreserved : ∀ w, phaseFits 0xF#4 w = false := by decide
  refine (decodePhase_total s.ph).resolve_left fun hf => ?_
  have hfits := h.phaseOfCommand
  rw [hf, hreserved] at hfits
  cases hfits

/-! ## Each clock takes one off -/

/-- The micro-operation that `PH` names leaves one clock less. -/
theorem clocksLeft_exec {s t : State} {i : Instr} (h : BlockInv s) (hn : 1 ≤ s.cfg.nSettle) (hp : s.ph ≠ phIdle)
    (hi : decodePhase s.ph = .ok i) (ht : exec i s = .next t) : clocksLeft t + 1 = clocksLeft s := by
  rw [clocksLeft_phase hi]
  have he := encode_of_decodePhase hi
  cases i
  case init | update | changed | buildReport => cases he
  case idle => exact absurd (CodeWord.ph4.inj he).symm hp
  case cfgPins =>
    have hp' : s.ph = phCfgPins := (CodeWord.ph4.inj he).symm
    have hinit : isInit s.cmdQ = true :=
      beq_iff_eq.mpr (op_of_phaseFits_init _ _ (.inr (.inl hp')) h.phaseOfCommand)
    have hpack : clocksAfterPack s = 1 := if_pos hinit
    injection ht with ht; subst ht
    change 3 * (s.cfg.nSettle + 5) + clocksAfterPack s + 2 + s.cfg.nSettle + 5 + 1 = 4 * (s.cfg.nSettle + 5) + 4
    omega
  case strobeOut =>
    injection ht with ht; subst ht
    change clocksAfterColumn s + max s.cfg.nSettle 1 + 4 = clocksAfterColumn s + s.cfg.nSettle + 4
    omega
  case settle =>
    by_cases hc : s.settleCnt > 1
    · rw [exec_settle_stay hc] at ht
      injection ht with ht; subst ht
      rw [clocksLeft_phase (i := .settle) (by exact hi)]
      change clocksAfterColumn s + max (s.settleCnt - 1) 1 + 4 = clocksAfterColumn s + max s.settleCnt 1 + 3
      omega
    · rw [exec_settle_end hc] at ht
      injection ht with ht; subst ht
      change clocksAfterColumn s + 4 = clocksAfterColumn s + max s.settleCnt 1 + 3
      omega
  case releasePu =>
    rw [exec_releasePu] at ht; injection ht with ht; subst ht
    split
    · next hcol => exact congrArg (· + 1) (clocksAfterColumn_last hcol).symm
    · next hcol => exact congrArg (· + 1) (clocksAfterColumn_next hcol)
  case pack =>
    rw [exec_pack] at ht; injection ht with ht; subst ht
    split
    · next hinit => exact congrArg (· + 1) (if_pos hinit).symm
    · next hinit => exact congrArg (· + 1) (if_neg hinit).symm
  case copyDest =>
    rw [exec_copyDest] at ht; injection ht with ht; subst ht
    split
    · next h4 =>
      change 5 + 1 = 10 - s.idx.val
      rw [h4]; rfl
    · next h4 =>
      rw [clocksLeft_phase (i := .copyDest) (by exact hi)]
      change 10 - (s.idx + 1).val + 1 = 10 - s.idx.val
      rw [val_succ_idx h4]
      omega
  case copyRep =>
    rw [exec_copyRep] at ht; injection ht with ht; subst ht
    split
    · next h4 =>
      change 0 + 1 = 5 - s.idx.val
      rw [h4]; rfl
    · next h4 =>
      rw [clocksLeft_phase (i := .copyRep) (by exact hi)]
      change 5 - (s.idx + 1).val + 1 = 5 - s.idx.val
      rw [val_succ_idx h4]
      omega
  all_goals (injection ht with ht; subst ht; rfl)

/-! ## The count is at most the command's length -/

/-- A column with its own clocks is within a scan's command. -/
theorem clocksAfterColumn_le {s : State} (hop : opOf s.cmdQ = 0b00#2 ∨ opOf s.cmdQ = 0b01#2) :
    clocksAfterColumn s + s.cfg.nSettle + 5 ≤ commandClocks s.cfg s.cmdQ := by
  have hcols : (3 - s.col.val) * (s.cfg.nSettle + 5) ≤ 3 * (s.cfg.nSettle + 5) :=
    Nat.mul_le_mul_right _ (Nat.sub_le _ _)
  rcases hop with hw | hw
  · rw [commandClocks_init _ hw, clocksAfterColumn, clocksAfterPack]
    split <;> omega
  · have hinit : ¬ isInit s.cmdQ = true := by rw [isInit, hw]; decide
    rw [commandClocks_update _ hw, clocksAfterColumn, clocksAfterPack, if_neg hinit]
    omega

/-- No clock of a column is before its STROBE_LOW, and the hold's count is at most what it is loaded with (R31). -/
theorem clocksLeft_le {s : State} (h : BlockInv s) (hn : 1 ≤ s.cfg.nSettle) :
    clocksLeft s ≤ commandClocks s.cfg s.cmdQ := by
  have hset := h.settleBound
  have hfits := h.phaseOfCommand
  obtain ⟨i, hi⟩ := h.decodes
  rw [clocksLeft_phase hi]
  have he := encode_of_decodePhase hi
  cases i
  case init | update | changed | buildReport => cases he
  case idle => exact Nat.zero_le _
  case saveIe | cfgPins | restoreIe =>
    have hp := CodeWord.ph4.inj he
    rw [commandClocks_init _ (op_of_phaseFits_init _ _ (by rw [← hp]; decide) hfits), clocksFrom]
    omega
  case chg =>
    rw [← CodeWord.ph4.inj he] at hfits
    rw [commandClocks_changed _ (op_of_phaseFits_chg _ hfits)]; rfl
  case copyDest =>
    rw [← CodeWord.ph4.inj he] at hfits
    rw [word_of_phaseFits_copyDest _ hfits]
    exact Nat.sub_le _ _
  case copyRep =>
    rw [← CodeWord.ph4.inj he] at hfits
    rw [commandClocks_buildReport _ (op_of_phaseFits_copyRep _ hfits), clocksFrom]
    split <;> omega
  all_goals
    have hp := CodeWord.ph4.inj he
    refine le_trans ?_ (clocksAfterColumn_le (op_of_phaseFits_scan _ _ (by rw [← hp]; decide) hfits))
    simp only [clocksFrom, clocksAfterColumn]
    omega

/-! ## The end -/

/-- A micro-operation always answers a next state (R84). -/
theorem phase_next {p : PhaseCode} {i : Instr} (hi : decodePhase p = .ok i) (s : State) :
    ∃ t, exec i s = .next t := by
  have he := encode_of_decodePhase hi
  cases i
  case init | update | changed | buildReport => cases he
  all_goals exact ⟨_, rfl⟩

/-- The command runs to its end in exactly the clocks it has left. -/
theorem run_clocksLeft {s : State} (h : BlockInv s) (halone : Alone s) (hn : 1 ≤ s.cfg.nSettle)
    (hp : s.ph ≠ phIdle) : ∃ t, run (clocksLeft s) s = .next t ∧ t.ph = phIdle ∧ t.done = true := by
  obtain ⟨i, hi⟩ := h.decodes
  obtain ⟨t, ht⟩ := phase_next hi s
  have hstep := (halone.step hi).trans ht
  have hcount := clocksLeft_exec h hn hp hi ht
  rw [← hcount, run_cons hstep]
  by_cases htp : t.ph = phIdle
  · have hzero : clocksLeft t = 0 := clocksLeft_phase (i := .idle) (by rw [htp]; rfl)
    exact ⟨t, by rw [hzero]; rfl, htp, phase_done hi ht hp htp⟩
  · exact run_clocksLeft (h.phase hi ht) (halone.of_sameEnvironment (exec_sameEnvironment ht))
      ((exec_keeps ht).1 ▸ hn) htp
termination_by clocksLeft s
decreasing_by omega

/-- Settles O44: the clocks left are at most the command's length, and the lengths are those of R152. -/
theorem everyCommandEnds : Obligations.EveryCommandEnds := by
  refine ⟨fun s h hp ha hr hn => ?_, fun c d => ⟨commandClocks_init c (opOf_cmdWordOf _ d),
    commandClocks_update c (opOf_cmdWordOf _ d), commandClocks_changed c (opOf_cmdWordOf _ d), ?_⟩⟩
  · obtain ⟨t, ht, htp, hd⟩ := run_clocksLeft h ⟨ha, hr⟩ hn hp
    exact ⟨clocksLeft s, t, clocksLeft_le h hn, ht, htp, hd⟩
  · exact (commandClocks_buildReport c (opOf_cmdWordOf _ d)).trans (by rw [destSupplied_cmdWordOf])

end Machine
end Sys2Proof
end

section
/-! SUPPORT. Where a step answers a next state, and that a run with a well-formed driver does at every step
(60_exceptions.md R170, 44_commands.md R151, 70_reset_and_hazards.md R205). -/

namespace Sys2Proof
namespace Machine

/-! ## One turn -/

/-- In IDLE a whole command always answers a next state (R151). -/
theorem command_next {s : State} (w : CmdWord) (hp : s.ph = phIdle) : ∃ t, exec (decodeCmd w) s = .next t := by
  obtain ⟨d, hw | hw | hw | hw⟩ := decodeCmd_cases w
  · exact ⟨_, hw ▸ exec_init_idle d hp⟩
  · exact ⟨_, hw ▸ exec_update_idle d hp⟩
  · exact ⟨_, hw ▸ exec_changed_idle d hp⟩
  · exact ⟨_, hw ▸ exec_buildReport_idle d hp⟩

/-- A driver's call in IDLE answers a next state, under the reset input or out of it (R151, R190). -/
theorem invokeTurn_next {s : State} (w : CmdWord) (hp : s.ph = phIdle) : ∃ t, invokeTurn w s = .next t := by
  by_cases hr : s.rst = true
  · exact ⟨_, if_pos hr⟩
  · rw [invokeTurn_command w (Bool.eq_false_iff.mpr hr)]
    exact command_next w hp

/-- In a phase of the invariant the block's clock edge answers a next state (R84, R190). -/
theorem BlockInv.blockTurn_next {s : State} (h : BlockInv s) : ∃ t, blockTurn s = .next t := by
  by_cases hr : s.rst = true
  · exact ⟨_, blockTurn_reset hr⟩
  · obtain ⟨i, hi⟩ := h.decodes
    rw [blockTurn_phase (Bool.eq_false_iff.mpr hr) hi]
    exact phase_next hi s

/-! ## One step -/

/-- `cmd_ready` is IDLE (R150). -/
theorem cmdReady_iff (s : State) : cmdReady s = true ↔ s.ph = phIdle := beq_iff_eq

/-- A call next on the agenda is presented. -/
theorem presents_of_callNext {w : CmdWord} {s : State} (h : CallNext w s) : presents s = true := by
  obtain ⟨rest, ha | ⟨ha, hq⟩⟩ := h
  · simp [presents, ha]
  · simp [presents, ha, hq]

/-- A step from a state of the invariant answers a next state when what the driver presents is presented in IDLE:
only a clock edge and a call can be refused. -/
theorem BlockInv.step_next {s : State} (h : BlockInv s) (hd : presents s = true → cmdReady s = true) :
    ∃ t, Machine.step s = .next t := by
  have hidle : ∀ w, CallNext w s → s.ph = phIdle := fun w hc => (cmdReady_iff s).mp (hd (presents_of_callNext hc))
  cases ha : s.agenda with
  | nil => rw [step_nil ha]; exact h.blockTurn_next
  | cons a rest =>
    rw [step_cons ha]
    cases a with
    | block => exact (h.of_frame (.inl rfl) : BlockInv { s with agenda := rest }).blockTurn_next
    | invoke w => exact invokeTurn_next w (hidle w ⟨rest, .inl ha⟩)
    | invokeIfChanged w =>
      simp only [agentTurn]
      split
      · next hq => exact invokeTurn_next w (hidle w ⟨rest, .inr ⟨ha, hq⟩⟩)
      · exact ⟨_, rfl⟩
    | _ => exact ⟨_, rfl⟩

/-! ## A run -/

/-- Settles O43: the invariant and the driver's premise both pass to the next state, which every step has. -/
theorem nothingIsStuck : Obligations.NothingIsStuck := by
  intro s h hd n
  induction n generalizing s with
  | zero => exact ⟨s, rfl⟩
  | succ n ih =>
    obtain ⟨hnow, hlater⟩ := (throughout_iff _ s).mp hd
    obtain ⟨t, ht⟩ := h.step_next hnow
    rw [run_cons ht]
    exact ih t (h.step ht) (hlater t ht)

end Machine
end Sys2Proof
end

section
/-! SUPPORT. What a reset edge loads, and where the run of a program ends (70_reset_and_hazards.md R190, R191, R205). -/

namespace Sys2Proof
namespace Machine

/-! ## Reset (R190, R191) -/

/-- Settles O1: the pads follow from the reset values of their three bits, the rest is R36 item by item. -/
theorem resetLeavesIdleBlock : Obligations.ResetLeavesIdleBlock := by
  have hpads : ∀ c, pad State.reset c = .floating := by decide
  exact ⟨rfl, rfl, rfl, hpads, rfl, rfl, rfl, rfl, reset_atReset⟩

/-- Settles O2: under `rst` = 1 the block's turn and a call are both the reset edge. -/
theorem resetEdgeLoadsResetValues : Obligations.ResetEdgeLoadsResetValues := by
  intro s hr
  have hblock : blockTurn s = .next (resetEdge s) := blockTurn_reset hr
  have hcall : ∀ w, invokeTurn w s = .next (resetEdge s) := fun _ => if_pos hr
  exact ⟨⟨resetEdge s, hblock, resetEdge_atReset s, rfl, rfl, rfl, rfl, rfl, rfl, rfl, rfl, rfl, rfl, rfl, rfl⟩,
    fun w => (hcall w).trans hblock.symm⟩

/-! ## The driver's commands to come -/

/-- A turn in which the driver gives a command, where `CHANGED_Q` is `q`. -/
def GivesCommand (q : Bool) : AgentStep → Prop
  | .invoke _ => True
  | .invokeIfChanged _ => q = true
  | .drivePort v _ => v = true
  | _ => False

/-- A command is left where one is presented or a turn to come gives one. -/
theorem commandsLeft_iff (s : State) :
    commandsLeft s = true ↔ s.cmdValid = true ∨ ∃ a ∈ s.agenda, GivesCommand s.changedQ a := by
  rw [commandsLeft, Bool.or_eq_true, List.any_eq_true]
  refine or_congr_right (exists_congr fun a => and_congr_right fun _ => ?_)
  cases a <;> simp [GivesCommand]

theorem commandsLeft_eq_false_iff (s : State) :
    commandsLeft s = false ↔ s.cmdValid = false ∧ ∀ a ∈ s.agenda, ¬ GivesCommand s.changedQ a := by
  rw [← Bool.not_eq_true, commandsLeft_iff, not_or, Bool.not_eq_true, not_exists]
  simp only [not_and]

theorem lastDone_iff (s : State) : lastDone s = true ↔ s.done = true ∧ s.ph = phIdle ∧ commandsLeft s = false := by
  simp [lastDone, and_assoc]

/-- With `CHANGED_Q` = 0 no more turns give a command than with either value. -/
theorem GivesCommand.of_false {a : AgentStep} (h : GivesCommand false a) (q : Bool) : GivesCommand q a := by
  cases a
  case invokeIfChanged w => cases h
  all_goals exact h

/-! ## From the end on (R205) -/

/-- The block waits in IDLE and the driver has no command left. -/
structure AtRest (s : State) : Prop where
  idle : s.ph = phIdle
  noneLeft : commandsLeft s = false

namespace AtRest

variable {s t : State}

/-- No call is next. -/
theorem not_callNext (h : AtRest s) (w : CmdWord) : ¬ CallNext w s := by
  obtain ⟨_, hnone⟩ := (commandsLeft_eq_false_iff s).mp h.noneLeft
  rintro ⟨rest, ha | ⟨ha, hq⟩⟩
  · exact hnone (.invoke w) (ha ▸ List.mem_cons_self) trivial
  · exact hnone (.invokeIfChanged w) (ha ▸ List.mem_cons_self) hq

/-- No step presents a command: the driver's turns on its port only lower `cmd_valid`. -/
theorem step_cmdValid (h : AtRest s) (hs : step s = .next t) : t.cmdValid = false := by
  obtain ⟨hquiet, hnone⟩ := (commandsLeft_eq_false_iff s).mp h.noneLeft
  by_cases hport : ∃ v w rest, s.agenda = .drivePort v w :: rest
  · obtain ⟨v, w, rest, ha⟩ := hport
    rw [step_cons ha] at hs
    injection hs with hs
    subst hs
    exact Bool.eq_false_iff.mpr (hnone (.drivePort v w) (ha ▸ List.mem_cons_self))
  · obtain ⟨hports, _⟩ := step_inputLevels hs
    exact (hports fun v w rest ha => hport ⟨v, w, rest, ha⟩).1.trans hquiet

/-- What a step leaves: `PH` stays IDLE, `DEST` is kept, `CHANGED_Q` is kept or cleared by a reset edge, and `done`
does not rise. -/
theorem step_leaves (h : AtRest s) (hs : step s = .next t) :
    t.ph = phIdle ∧ t.dest = s.dest ∧ (t.changedQ = s.changedQ ∨ t.changedQ = false) ∧
    (t.done = true → s.done = true) := by
  cases turn_of_step hs with
  | reset _ _ ht => subst ht; exact ⟨rfl, rfl, .inr rfl, nofun⟩
  | phase i _ _ hi ht =>
    rw [h.idle] at hi
    injection hi with hi
    subst hi
    obtain ⟨hquiet, _⟩ := (commandsLeft_eq_false_iff s).mp h.noneLeft
    rw [exec_idle_quiet (s := turnTaken s) hquiet] at ht
    injection ht with ht
    subst ht
    exact ⟨h.idle, rfl, .inl rfl, nofun⟩
  | call w _ hn _ => exact absurd hn (h.not_callNext w)
  | other a rest _ hb ht => rw [(agentTurn_frame hb ht).1]; exact ⟨h.idle, rfl, .inl rfl, id⟩

/-- Every step leaves the block at rest. -/
theorem step (h : AtRest s) (hs : step s = .next t) : AtRest t := by
  obtain ⟨hidle, _, hq, _⟩ := h.step_leaves hs
  obtain ⟨_, hnone⟩ := (commandsLeft_eq_false_iff s).mp h.noneLeft
  refine ⟨hidle, (commandsLeft_eq_false_iff t).mpr ⟨h.step_cmdValid hs, fun a ha hg => ?_⟩⟩
  have hmem : a ∈ s.agenda := List.mem_of_mem_tail (step_agenda hs ▸ ha)
  rcases hq with hq | hq
  · exact hnone a hmem (hq ▸ hg)
  · exact hnone a hmem ((hq ▸ hg : GivesCommand false a).of_false _)

/-- A run of any length stays at rest, and neither writes `DEST` nor raises `done`. -/
theorem run {n : Nat} (h : AtRest s) (ht : run n s = .next t) :
    AtRest t ∧ t.dest = s.dest ∧ (t.done = true → s.done = true) := by
  refine throughout_of_kept (P := fun u => AtRest u ∧ u.dest = s.dest ∧ (u.done = true → s.done = true))
    (fun u v ⟨hu, hdest, hdone⟩ hs => ?_) ⟨h, rfl, id⟩ n t ht
  obtain ⟨_, hdest', _, hdone'⟩ := hu.step_leaves hs
  exact ⟨hu.step hs, hdest'.trans hdest, hdone ∘ hdone'⟩

end AtRest

/-- A run from rest has no end: a `done` that is still 1 later was 1 at the start. -/
theorem AtRest.not_runEndsAt {s t : State} (h : AtRest s) : ¬ RunEndsAt s t := by
  rintro ⟨n, hn, ht, hlast, before⟩
  obtain ⟨htdone, _⟩ := (lastDone_iff t).mp hlast
  obtain ⟨_, _, hdone⟩ := h.run ht
  have hstart : lastDone s = true := (lastDone_iff s).mpr ⟨hdone htdone, h.idle, h.noneLeft⟩
  rw [before 0 s hn rfl] at hstart
  cases hstart

/-! ## To the end -/

/-- A run with a command left that reaches the pulse of its last command has an end, the first such state. -/
theorem exists_runEndsAt {s t : State} {n : Nat} (hleft : commandsLeft s = true) (ht : run n s = .next t)
    (hlast : lastDone t = true) : ∃ u, RunEndsAt s u := by
  classical
  have hreached : ∃ k u, run k s = .next u ∧ lastDone u = true := ⟨n, t, ht, hlast⟩
  obtain ⟨u, hu, hulast⟩ := Nat.find_spec hreached
  refine ⟨u, Nat.find hreached, Nat.pos_of_ne_zero fun hzero => ?_, hu, hulast, fun m v hm hv => ?_⟩
  · rw [hzero] at hu
    injection hu with hu
    obtain ⟨_, _, hnone⟩ := (lastDone_iff u).mp hulast
    rw [← hu, hleft] at hnone
    cases hnone
  · exact Bool.eq_false_iff.mpr fun hvlast => Nat.find_min hreached hm ⟨v, hv, hvlast⟩

/-- A whole command ends in IDLE with its `done` (R150, R152). -/
theorem call_finishes {w : CmdWord} {s t : State} (h : exec (decodeCmd w) s = .next t) :
    t.ph = phIdle ∧ t.done = true := by
  obtain ⟨d, hw | hw | hw | hw⟩ := decodeCmd_cases w <;> rw [hw] at h
  · obtain ⟨_, rfl⟩ := init_cases h; exact ⟨rfl, rfl⟩
  · obtain ⟨_, rfl⟩ := update_cases h; exact ⟨rfl, rfl⟩
  · obtain ⟨_, rfl⟩ := changed_cases h; exact ⟨rfl, rfl⟩
  · obtain ⟨_, rfl⟩ := buildReport_cases h; exact ⟨rfl, rfl⟩

/-- In IDLE the block's clock edge answers a next state. -/
theorem blockTurn_next_of_idle {s : State} (hp : s.ph = phIdle) : ∃ t, blockTurn s = .next t := by
  by_cases hr : s.rst = true
  · exact ⟨_, blockTurn_reset hr⟩
  · have hi : decodePhase s.ph = .ok .idle := by rw [hp]; rfl
    rw [blockTurn_phase (Bool.eq_false_iff.mpr hr) hi]
    exact phase_next hi s

/-- In IDLE every step answers a next state. -/
theorem step_next_of_idle {s : State} (hp : s.ph = phIdle) : ∃ t, step s = .next t := by
  cases ha : s.agenda with
  | nil => rw [step_nil ha]; exact blockTurn_next_of_idle hp
  | cons a rest =>
    rw [step_cons ha]
    cases a with
    | block => exact blockTurn_next_of_idle (s := { s with agenda := rest }) hp
    | invoke w => exact invokeTurn_next w hp
    | invokeIfChanged w =>
      rw [agentTurn]
      split
      · exact invokeTurn_next w hp
      · exact ⟨_, rfl⟩
    | _ => exact ⟨_, rfl⟩

/-! ## Programs as trace lines (30_encoding.md R87, R88) -/

/-- The turns that trace lines are made of: calls, branches and the controller's switches. -/
def TraceTurn : AgentStep → Prop
  | .invoke _ | .invokeIfChanged _ | .press _ | .release _ | .releaseAll => True
  | _ => False

theorem Line.traceTurn_of_mem {l : Line} {a : AgentStep} (h : a ∈ l.turns) : TraceTurn a := by
  cases l
  case press fs | release fs => obtain ⟨f, _, rfl⟩ := List.mem_map.mp h; trivial
  case poll =>
    have hpoll : a = .invoke 0b001#3 ∨ a = .invoke 0b010#3 ∨ a = .invokeIfChanged 0b111#3 := by
      simpa [Line.turns] using h
    obtain rfl | rfl | rfl := hpoll <;> trivial
  all_goals (rw [List.mem_singleton.mp h]; trivial)

/-- A line that calls no command gives none: the branch of `poll` follows its calls. -/
theorem Line.gives_none {l : Line} (h : ∀ w, AgentStep.invoke w ∉ l.turns) {q : Bool} {a : AgentStep}
    (ha : a ∈ l.turns) : ¬ GivesCommand q a := by
  cases l
  case press fs | release fs => obtain ⟨f, _, rfl⟩ := List.mem_map.mp ha; exact id
  case releaseAll => rw [List.mem_singleton.mp ha]; exact id
  all_goals exact absurd List.mem_cons_self (h _)

/-- A trace runs: the block is in IDLE, with the reset input and `cmd_valid` low, and only trace turns are to come. -/
structure TraceRuns (s : State) : Prop where
  idle : s.ph = phIdle
  rst : s.rst = false
  quiet : s.cmdValid = false
  turns : ∀ a ∈ s.agenda, TraceTurn a

namespace TraceRuns

variable {s t : State}

/-- A turn of a trace is a whole command or does not move the block. -/
theorem not_blockNext (h : TraceRuns s) (hne : s.agenda ≠ []) : ¬ BlockNext s := by
  rintro (ha | ⟨rest, ha⟩)
  · exact hne ha
  · exact h.turns .block (ha ▸ List.mem_cons_self)

/-- A step of a trace is a turn of the trace. -/
theorem step (h : TraceRuns s) (hne : s.agenda ≠ []) (hs : step s = .next t) : TraceRuns t := by
  obtain ⟨hport, hrst⟩ := step_inputLevels hs
  have hhead : ∀ {a rest}, s.agenda = a :: rest → TraceTurn a := fun ha => h.turns _ (ha ▸ List.mem_cons_self)
  refine ⟨?_, (hrst fun level rest ha => hhead ha).trans h.rst, (hport fun v w rest ha => hhead ha).1.trans h.quiet,
    fun a ha => h.turns a (List.mem_of_mem_tail (step_agenda hs ▸ ha))⟩
  cases turn_of_step hs with
  | reset _ _ ht => subst ht; rfl
  | phase i _ hn _ _ => exact absurd hn (h.not_blockNext hne)
  | call w _ _ ht => exact (call_finishes ht).1
  | other a rest _ hb ht => rw [(agentTurn_frame hb ht).1]; exact h.idle

/-- The step that takes the last command left ends with its `done`: a turn that does not move the block takes none. -/
theorem step_done (h : TraceRuns s) (hne : s.agenda ≠ []) (hs : Machine.step s = .next t)
    (hleft : commandsLeft s = true) (hnone : commandsLeft t = false) : t.done = true := by
  cases turn_of_step hs with
  | reset hr _ _ => exact absurd hr (Bool.eq_false_iff.mp h.rst)
  | phase i _ hn _ _ => exact absurd hn (h.not_blockNext hne)
  | call w _ _ ht => exact (call_finishes ht).2
  | other a rest ha hb ht =>
    obtain ⟨_, htnone⟩ := (commandsLeft_eq_false_iff t).mp hnone
    have hq : t.changedQ = s.changedQ := by rw [(agentTurn_frame hb ht).1]; rfl
    have hrest : t.agenda = rest := by rw [step_agenda hs, ha]; rfl
    rw [hq, hrest] at htnone
    have hhead : ¬ GivesCommand s.changedQ a := fun hg => by
      have htrace := h.turns a (ha ▸ List.mem_cons_self)
      cases a
      case invoke w => exact hb.notCall w rfl
      case invokeIfChanged w => exact Bool.eq_false_iff.mp (hb.branchNotTaken w rfl) hg
      case drivePort v w => exact htrace
      all_goals exact hg
    have hsnone : commandsLeft s = false := (commandsLeft_eq_false_iff s).mpr ⟨h.quiet, by
      rw [ha]; exact List.forall_mem_cons.mpr ⟨hhead, htnone⟩⟩
    rw [hleft] at hsnone
    cases hsnone

/-- A trace with a command left comes to the pulse of its last command. -/
theorem reaches_lastDone (h : TraceRuns s) (hleft : commandsLeft s = true) :
    ∃ n t, run n s = .next t ∧ lastDone t = true := by
  obtain ⟨turns, ha⟩ : ∃ turns, s.agenda = turns := ⟨_, rfl⟩
  induction turns generalizing s with
  | nil =>
    have hnone : commandsLeft s = false := (commandsLeft_eq_false_iff s).mpr ⟨h.quiet, by simp [ha]⟩
    rw [hleft] at hnone
    cases hnone
  | cons a rest ih =>
    have hne : s.agenda ≠ [] := ha ▸ List.cons_ne_nil a rest
    obtain ⟨t, hs⟩ := step_next_of_idle h.idle
    have ht : TraceRuns t := h.step hne hs
    cases htleft : commandsLeft t with
    | false =>
      exact ⟨1, t, run_one hs, (lastDone_iff t).mpr ⟨h.step_done hne hs hleft htleft, ht.idle, htleft⟩⟩
    | true =>
      obtain ⟨n, u, hu, hlast⟩ := ih ht htleft (by rw [step_agenda hs, ha]; rfl)
      exact ⟨n + 1, u, (run_cons hs).trans hu, hlast⟩

end TraceRuns

/-! ## One command on the port (44_commands.md R150, R152) -/

/-- An accepted command is not in IDLE (R150). -/
theorem accept_ph_ne_idle (w : CmdWord) (s : State) : (accept w s).ph ≠ phIdle := by
  have hphases : phSaveIe ≠ phIdle ∧ phStrobeLow ≠ phIdle ∧ phChg ≠ phIdle ∧ phCopyDest ≠ phIdle ∧
    phCopyRep ≠ phIdle := by decide
  obtain ⟨hinit, hupdate, hchanged, hdest, hrep⟩ := hphases
  rcases op_cases (opOf w) with hw | hw | hw | hw
  · rw [accept_init hw]; exact hinit
  · rw [accept_update hw]; exact hupdate
  · rw [accept_changed hw]; exact hchanged
  · rw [accept_buildReport hw, goto_ph]
    split
    · exact hdest
    · exact hrep

/-- A command that runs alone with `cmd_valid` low ends with the pulse of the last command. -/
theorem Alone.reaches_lastDone {s : State} (halone : Alone s) (h : BlockInv s) (hn : 1 ≤ s.cfg.nSettle)
    (hp : s.ph ≠ phIdle) (hv : s.cmdValid = false) : ∃ n t, run n s = .next t ∧ lastDone t = true := by
  obtain ⟨t, ht, hidle, hdone⟩ := run_clocksLeft h halone hn hp
  obtain ⟨_, hvalid, _, _, _, _, hagenda⟩ := run_sameEnvironment halone.agenda ht
  have hnone : commandsLeft t = false :=
    (commandsLeft_eq_false_iff t).mpr ⟨hvalid.trans hv, by simp [hagenda, halone.agenda]⟩
  exact ⟨_, t, ht, (lastDone_iff t).mpr ⟨hdone, hidle, hnone⟩⟩

/-- A word presented on the port, with some turns to come. -/
def presented (w : CmdWord) (turns : List AgentStep) (s : State) : State :=
  { s with cmdValid := true, cmdWord := w, agenda := turns }

/-- The handshake of the port (R150): `cmd_valid` raised, the acceptance edge, `cmd_valid` lowered; then the command
runs alone. -/
theorem run_handshake {w : CmdWord} {s : State} (hp : s.ph = phIdle) (hr : s.rst = false)
    (ha : s.agenda = [.drivePort true w, .block, .drivePort false w]) : ∃ t, run 3 s = .next t ∧ Alone t ∧
      t.cfg = s.cfg ∧ t.ph ≠ phIdle ∧ t.cmdValid = false := by
  have hi : decodePhase s.ph = .ok .idle := by rw [hp]; rfl
  have hraise : step s = .next (presented w [.block, .drivePort false w] s) := step_cons ha
  have hedge : blockTurn (presented w [.drivePort false w] s) = .next (accept w (presented w [.drivePort false w] s)) :=
    (blockTurn_phase (s := presented w _ s) hr hi).trans (exec_idle_presented rfl rfl)
  have haccept : step (presented w [.block, .drivePort false w] s) =
      .next (accept w (presented w [.drivePort false w] s)) := (step_cons (a := .block) rfl).trans hedge
  obtain ⟨hrst, _, _, _, _, _, hagenda⟩ := accept_sameEnvironment w (presented w [.drivePort false w] s)
  have hcfg : (accept w (presented w [.drivePort false w] s)).cfg = s.cfg := by
    rw [accept_frame]; rfl
  exact ⟨_, (run_cons hraise).trans ((run_cons haccept).trans (run_one (step_cons hagenda))), ⟨rfl, hrst.trans hr⟩,
    hcfg, accept_ph_ne_idle w _, rfl⟩

/-- Settles O60: a trace and a command on the port come to the pulse of the last command, the first one is the end,
and rest has none. -/
theorem programRunsEnd : Obligations.ProgramRunsEnd := by
  refine ⟨fun s p hp hr hv ha hcmd => ?_, fun s w h hp hr hn ha => ?_, fun s t hend => ?_,
    fun s t p hp hv ha hnone => ?_⟩
  · have hagenda : (s.withProgram p).agenda = p.flatMap Line.turns := by simp [State.withProgram, ha]
    obtain ⟨l, hl, w, hw⟩ := hcmd
    have hleft : commandsLeft (s.withProgram p) = true := (commandsLeft_iff _).mpr
      (.inr ⟨.invoke w, hagenda ▸ List.mem_flatMap.mpr ⟨l, hl, hw⟩, trivial⟩)
    have htrace : TraceRuns (s.withProgram p) := ⟨hp, hr, hv, fun a hmem => by
      obtain ⟨l, _, hal⟩ := List.mem_flatMap.mp (hagenda ▸ hmem)
      exact Line.traceTurn_of_mem hal⟩
    obtain ⟨n, t, ht, hlast⟩ := htrace.reaches_lastDone hleft
    exact exists_runEndsAt hleft ht hlast
  · have hleft : commandsLeft s = true := (commandsLeft_iff s).mpr
      (.inr ⟨.drivePort true w, ha ▸ List.mem_cons_self, rfl⟩)
    obtain ⟨u, hu, halone, hcfg, huph, huv⟩ := run_handshake hp hr ha
    obtain ⟨n, t, ht, hlast⟩ := halone.reaches_lastDone (h.run hu) (hcfg ▸ hn) huph huv
    exact exists_runEndsAt hleft ((run_add hu).trans ht) hlast
  · obtain ⟨_, _, _, hlast, _⟩ := hend
    obtain ⟨hdone, hidle, hnone⟩ := (lastDone_iff t).mp hlast
    refine ⟨hidle, hdone, hnone, fun n u hu => ?_⟩
    obtain ⟨hrest, hdest, _⟩ := AtRest.run ⟨hidle, hnone⟩ hu
    exact ⟨hrest.idle, hdest⟩
  · refine AtRest.not_runEndsAt ⟨hp, (commandsLeft_eq_false_iff _).mpr ⟨hv, fun a hmem => ?_⟩⟩
    obtain ⟨l, hl, hal⟩ := List.mem_flatMap.mp (by simpa [State.withProgram, ha] using hmem)
    exact Line.gives_none (hnone l hl) hal

end Machine
end Sys2Proof
end
